-- ==== Sys2Proof/Word.lean ====
section
/-! DEFINITION. The word types of the block, one per stored width (00_scope.md R12 to R15, 10_state.md R20). -/

namespace Sys2Proof

/-- One payload byte of the command frame (10_state.md R38). -/
abbrev Byte := BitVec 8

/-- A time value of `TIME_W = 32` bits (00_scope.md R12, decision D3); also the width of `PERIOD` (`PERIOD_W = TIME_W`, R22). -/
abbrev Time := BitVec 32

/-- The setpoint register's 16 bits, unsigned (10_state.md R24). -/
abbrev SetpointWord := BitVec 16

/-- Format SW, bits `CL CH BL BH AL AH` from bit 5 down to bit 0, 1 = on (30_encoding.md R72). -/
abbrev SwWord := BitVec 6

/-- Format STEP (30_encoding.md R73). -/
abbrev StepCode := BitVec 3

/-- Format PHASE (30_encoding.md R74). -/
abbrev PhaseCode := BitVec 3

/-- `a -w b`, the elapsed time `(a - b) mod 2^TIME_W` (00_scope.md R15). -/
abbrev Time.since (a b : Time) : Time := a - b

end Sys2Proof
end

