-- ==== Sys2Proof/Config.lean ====
section
/-! DEFINITION. What is fixed when a block is built (the parameters of 00_scope.md R12), what the environment presents at
the ports (10_state.md section 3), and the values the spec leaves open. -/

namespace Sys2Proof

/-- The OPEN parameters of 00_scope.md R12. A machine state carries them (DESIGN CHOICE, log 1), so that the model is stated for
every value and can still be run at one. -/
structure Config where
  /-- `MIN_SPEED`, the minimum-speed threshold (D11). -/
  minSpeed : Nat
  /-- `SETTLE_TIME`, the settle delay in time units (D12). -/
  settleTime : Nat
  /-- `ID_W`, the width of the bus identifier (D9). -/
  idW : Nat
  /-- `FRAME_ID`, the recognised identifier (D9). -/
  frameId : Nat
  /-- `ADC_W`, the width of a phase-voltage sample (D13). -/
  adcW : Nat
  /-- `VMID`, the midpoint reference (D13). -/
  vmid : Nat
  /-- `P_INIT`, the reset value of `PERIOD` (D20). -/
  pInit : Time
  deriving DecidableEq, Repr, Inhabited

/-- `NSTEPS` (00_scope.md R12). -/
def nSteps : Nat := 6

/-- `SP_SCALE`, the full-scale setpoint (00_scope.md R12). -/
def spScale : Nat := 1000

/-- The constraints of 00_scope.md R12 on the OPEN parameters (`SETTLE_TIME < 2^TIME_W / 6` in the form without division). -/
abbrev Config.Valid (c : Config) : Prop :=
  (1 ≤ c.minSpeed ∧ c.minSpeed ≤ 1000) ∧
  (1 ≤ c.settleTime ∧ 6 * c.settleTime < 2 ^ 32) ∧
  1 ≤ c.idW ∧ c.frameId < 2 ^ c.idW ∧
  1 ≤ c.adcW ∧ c.vmid < 2 ^ c.adcW ∧
  c.pInit ≠ 0

/-- Folds any record of numbers onto one that meets 00_scope.md R12; every legal record is the image of some record
(`Config.fold_surjective`), so nothing legal is shut out. -/
def Config.fold (r : Config) : Config where
  minSpeed := r.minSpeed % 1000 + 1
  settleTime := r.settleTime % 715827882 + 1
  idW := r.idW + 1
  frameId := r.frameId % 2 ^ (r.idW + 1)
  adcW := r.adcW + 1
  vmid := r.vmid % 2 ^ (r.adcW + 1)
  pInit := if r.pInit = 0 then 1 else r.pInit

/-- A free value (log 2): no source gives the OPEN parameters a value. -/
opaque Config.chosen : Config

/-- The parameters of the block that comes out of reset: legal, and otherwise unknown (log 2). -/
def Config.params : Config := Config.chosen.fold

/-- The ports read clock by clock: `rst` (R36), `time_now` (R37) and the three sense inputs (R40). A sense input is a number
here and is cut to `ADC_W` bits where it is read (log 6). -/
structure ClockInput where
  rst : Bool
  timeNow : Time
  vA : Nat
  vB : Nat
  vC : Nat
  deriving DecidableEq, Repr, Inhabited

/-- The receive port's signals, in the order of the table of 10_state.md R38. The identifier is a number here and is cut to `ID_W`
bits where it is read (log 6). -/
structure RxItem where
  valid : Bool
  err : Bool
  id : Nat
  d0 : Byte
  d1 : Byte
  deriving DecidableEq, Repr, Inhabited

/-- Free values (log 3): what the clocked ports carry in clock `n` when the state lists no input for it. -/
opaque Config.freeInput : Nat → ClockInput

/-- Free values (log 4): what the receive port presents in clock `n` when the state lists no item for it. -/
opaque Config.freeItem : Nat → RxItem

end Sys2Proof
end

