-- ==== Sys2Proof/Syntax.lean ====
section
/-! DEFINITION. The five phases and the 20 operations, one constructor per row of the opcode table (00_scope.md R4, 30_encoding.md
R81 and R82). -/

namespace Sys2Proof

/-- The micro-operation phases (30_encoding.md R74). -/
inductive Phase where
  | poll
  | eval
  | settle
  | sense
  | gate
  deriving DecidableEq, Repr

/-- The operations. A POLL operation carries the fields of its FRAME word (R71) that its row leaves variable, those it does not
read among them, so that no bit of the word is lost (log 13). -/
inductive Instr where
  /-- `POLL_SETPOINT`: a frame with the recognised identifier; payload bytes 0 and 1 (45_command_interface.md R201). -/
  | pollSetpoint (d0 d1 : Byte)
  /-- `POLL_OTHER_ID`: a frame with another identifier (R202). -/
  | pollOtherId (id : Nat) (d0 d1 : Byte)
  /-- `POLL_READ_ERROR`: a failed read (R204). -/
  | pollReadError (id : Nat) (d0 d1 : Byte)
  /-- `POLL_NO_FRAME`: no item presented (R205). -/
  | pollNoFrame (err : Bool) (id : Nat) (d0 d1 : Byte)
  /-- `EVAL_IDLE`: the minimum-speed gate (40_sequencer.md R102). -/
  | evalIdle
  /-- `EVAL_ADVANCE`: the scheduler's trigger is true (41_commutation_scheduler.md R122). -/
  | evalAdvance
  /-- `EVAL_HOLD`: the scheduler's trigger is false (R121). -/
  | evalHold
  /-- `SETTLE_WAIT` (40_sequencer.md R103). -/
  | settleWait
  /-- `SETTLE_DONE` (40_sequencer.md R103). -/
  | settleDone
  /-- `SENSE_CROSS` (43_zero_crossing_detector.md R162). -/
  | senseCross
  /-- `SENSE_NOCROSS` (R163). -/
  | senseNocross
  /-- `GATE_OFF` (44_speed_modulator.md R182). -/
  | gateOff
  /-- `GATE_KEEP` (R181). -/
  | gateKeep
  /-- `DRIVE_STEP0`: the driver call for step 0 (42_power_stage_driver.md R141); likewise 1 to 5. -/
  | driveStep0
  | driveStep1
  | driveStep2
  | driveStep3
  | driveStep4
  | driveStep5
  /-- `DRIVE_ALL_OFF` (R142). -/
  | driveAllOff
  deriving DecidableEq, Repr

end Sys2Proof
end

