-- ==== Sys2Proof/WellFormed.lean ====
section
/-! DEFINITION. Which operations, as syntax, some word of the block encodes, under its parameters. -/

namespace Sys2Proof

/-- An identifier fits its `ID_W` bits (30_encoding.md R71), and one of `POLL_OTHER_ID` is not `FRAME_ID` (R81). -/
def Instr.wf (c : Config) : Instr → Bool
  | .pollSetpoint _ _ => true
  | .pollOtherId id _ _ => decide (id < 2 ^ c.idW) && decide (id ≠ c.frameId)
  | .pollReadError id _ _ => decide (id < 2 ^ c.idW)
  | .pollNoFrame _ id _ _ => decide (id < 2 ^ c.idW)
  | .evalIdle => true
  | .evalAdvance => true
  | .evalHold => true
  | .settleWait => true
  | .settleDone => true
  | .senseCross => true
  | .senseNocross => true
  | .gateOff => true
  | .gateKeep => true
  | .driveStep0 => true
  | .driveStep1 => true
  | .driveStep2 => true
  | .driveStep3 => true
  | .driveStep4 => true
  | .driveStep5 => true
  | .driveAllOff => true

end Sys2Proof
end

