-- ==== Sys2Proof/Decode.lean ====
section
/-! DEFINITION. The decoder of the block's four formats (30_encoding.md R70 to R82), total and rejecting by name, and after it the
encoder, written from the same tables. -/

namespace Sys2Proof

/-- Why a word stands for nothing. -/
inductive Reject where
  /-- STEP 6 or 7 (30_encoding.md R75). -/
  | stepRange
  /-- PHASE 5, 6 or 7 (R76). -/
  | phaseRange
  /-- An SW word with both switches of a phase on (R77). -/
  | shootThrough
  /-- An SW word free of shoot-through that the block never produces (R77). -/
  | neverProduced
  deriving DecidableEq, Repr

/-! ### STEP and PHASE -/

/-- Format STEP (R73, R75). -/
def decodeStep (w : StepCode) : Except Reject (Fin 6) :=
  if h : w.toNat < 6 then .ok ⟨w.toNat, h⟩ else .error .stepRange

/-- Format PHASE (R74, R76). -/
def decodePhase (w : PhaseCode) : Except Reject Phase :=
  match w.toNat with
  | 0 => .ok .poll
  | 1 => .ok .eval
  | 2 => .ok .settle
  | 3 => .ok .sense
  | 4 => .ok .gate
  | _ => .error .phaseRange

/-! ### FRAME: the fields of the word `F`, whose width is `ID_W + 18` (R71) -/

/-- `F.d1 = F[7:0]`. -/
def frameD1 (F : Nat) : Byte := BitVec.ofNat 8 F

/-- `F.d0 = F[15:8]`. -/
def frameD0 (F : Nat) : Byte := BitVec.ofNat 8 (F / 2 ^ 8)

/-- `F.id = F[ID_W+15:16]`. -/
def frameId (c : Config) (F : Nat) : Nat := F / 2 ^ 16 % 2 ^ c.idW

/-- `F.err = F[ID_W+16]`. -/
def frameErr (c : Config) (F : Nat) : Bool := F / 2 ^ 16 / 2 ^ c.idW % 2 == 1

/-- `F.valid = F[ID_W+17]`. -/
def frameValid (c : Config) (F : Nat) : Bool := F / 2 ^ 16 / 2 ^ c.idW / 2 % 2 == 1

/-- The POLL operation a FRAME word selects: every word selects one (R78, R80, R81). -/
def decodeFrame (c : Config) (F : Nat) : Instr :=
  if frameValid c F then
    if frameErr c F then .pollReadError (frameId c F) (frameD0 F) (frameD1 F)
    else if frameId c F = c.frameId then .pollSetpoint (frameD0 F) (frameD1 F)
    else .pollOtherId (frameId c F) (frameD0 F) (frameD1 F)
  else .pollNoFrame (frameErr c F) (frameId c F) (frameD0 F) (frameD1 F)

/-! ### What selects the operation of a clock (R81) -/

/-- All that selects the operation of one clock: the PHASE word, the FRAME word, and the selecting conditions of R81, one bit
each, packed beside the PHASE word (DESIGN CHOICE, log 12). -/
structure ClockWord where
  phase : PhaseCode
  /-- The FRAME word; read in POLL only. -/
  frame : Nat
  /-- `SETPOINT >= MIN_SPEED`; read in EVAL. -/
  active : Bool
  /-- `(time_now -w T_LAST) >= PERIOD div 6`; read in EVAL when active. -/
  trigger : Bool
  /-- `(time_now -w T_LAST) >= SETTLE_TIME`; read in SETTLE. -/
  settled : Bool
  /-- `CROSS`; read in SENSE. -/
  cross : Bool
  /-- `(T_NOW -w T_LAST) > ONTIME`; read in GATE. -/
  expired : Bool
  deriving DecidableEq, Repr

/-- The operation map of R81. -/
def decodeClock (c : Config) (w : ClockWord) : Except Reject Instr :=
  match decodePhase w.phase with
  | .error r => .error r
  | .ok .poll => .ok (decodeFrame c w.frame)
  | .ok .eval => .ok (if w.active then (if w.trigger then .evalAdvance else .evalHold) else .evalIdle)
  | .ok .settle => .ok (if w.settled then .settleDone else .settleWait)
  | .ok .sense => .ok (if w.cross then .senseCross else .senseNocross)
  | .ok .gate => .ok (if w.expired then .gateOff else .gateKeep)

/-! ### SW (R72, R77, R82) -/

/-- Both switches of some phase `p` on: bits `2p` and `2p+1` both set (R77). -/
def shootThrough (w : SwWord) : Bool :=
  (w.getLsbD 0 && w.getLsbD 1) || (w.getLsbD 2 && w.getLsbD 3) || (w.getLsbD 4 && w.getLsbD 5)

/-- The driver operation that writes an SW word: the rows of format SW of the opcode table. -/
def decodeSw (w : SwWord) : Except Reject Instr :=
  match w.toNat with
  | 0x09 => .ok .driveStep0
  | 0x21 => .ok .driveStep1
  | 0x24 => .ok .driveStep2
  | 0x06 => .ok .driveStep3
  | 0x12 => .ok .driveStep4
  | 0x18 => .ok .driveStep5
  | 0x00 => .ok .driveAllOff
  | _ => .error (if shootThrough w then .shootThrough else .neverProduced)

/-- A word of the block: one that selects a clock's operation, or the switch word of a driver operation. -/
inductive Code where
  | clock (w : ClockWord)
  | sw (w : SwWord)
  deriving DecidableEq, Repr

/-- The decoder. -/
def decode (c : Config) : Code → Except Reject Instr
  | .clock w => decodeClock c w
  | .sw w => decodeSw w

/-! ### The encoder -/

/-- The PHASE codes (R74). -/
def Phase.code : Phase → PhaseCode
  | .poll => 0b000
  | .eval => 0b001
  | .settle => 0b010
  | .sense => 0b011
  | .gate => 0b100

/-- The FRAME word of its fields (R71): `valid`, `err`, `id`, `d0`, `d1` from the top bit down. -/
def packFrame (c : Config) (valid err : Bool) (id : Nat) (d0 d1 : Byte) : Nat :=
  ((valid.toNat * 2 + err.toNat) * 2 ^ c.idW + id % 2 ^ c.idW) * 2 ^ 16 + d0.toNat * 2 ^ 8 + d1.toNat

/-- A clock word of a phase with every other bit 0. -/
def ClockWord.plain (p : Phase) : ClockWord where
  phase := p.code
  frame := 0
  active := false
  trigger := false
  settled := false
  cross := false
  expired := false

/-- The clock word of a POLL clock that reads the FRAME word `F`. -/
def ClockWord.ofFrame (F : Nat) : ClockWord := { ClockWord.plain .poll with frame := F }

/-- The word of an operation; bits its row does not read are 0. -/
def encode (c : Config) : Instr → Code
  | .pollSetpoint d0 d1 => .clock (ClockWord.ofFrame (packFrame c true false c.frameId d0 d1))
  | .pollOtherId id d0 d1 => .clock (ClockWord.ofFrame (packFrame c true false id d0 d1))
  | .pollReadError id d0 d1 => .clock (ClockWord.ofFrame (packFrame c true true id d0 d1))
  | .pollNoFrame err id d0 d1 => .clock (ClockWord.ofFrame (packFrame c false err id d0 d1))
  | .evalIdle => .clock (ClockWord.plain .eval)
  | .evalAdvance => .clock { ClockWord.plain .eval with active := true, trigger := true }
  | .evalHold => .clock { ClockWord.plain .eval with active := true }
  | .settleWait => .clock (ClockWord.plain .settle)
  | .settleDone => .clock { ClockWord.plain .settle with settled := true }
  | .senseCross => .clock { ClockWord.plain .sense with cross := true }
  | .senseNocross => .clock (ClockWord.plain .sense)
  | .gateOff => .clock { ClockWord.plain .gate with expired := true }
  | .gateKeep => .clock (ClockWord.plain .gate)
  | .driveStep0 => .sw 0x09
  | .driveStep1 => .sw 0x21
  | .driveStep2 => .sw 0x24
  | .driveStep3 => .sw 0x06
  | .driveStep4 => .sw 0x12
  | .driveStep5 => .sw 0x18
  | .driveAllOff => .sw 0x00

/-! ### The opcode table's words as numbers -/

/-- The instantiation under which the opcode table shows its FRAME patterns (`ID_W = 11`) and the spec its vectors
(95_test_vectors.md, test instantiation of the OPEN parameters). -/
def tableConfig : Config where
  minSpeed := 50
  settleTime := 20
  idW := 11
  frameId := 0x100
  adcW := 10
  vmid := 512
  pInit := 6000

/-- The operation the decoder reads from a table word (log 8). A row of at most 8 bits is of format SW or PHASE, whose words are
disjoint; the condition bits above a PHASE word are 0. A longer row is of format FRAME, 29 bits at `ID_W = 11`. -/
def decodeTableWord (nbits w : Nat) : Option Instr :=
  if nbits ≤ 8 then
    if w < 64 then
      match decodeSw (BitVec.ofNat 6 w) with
      | .ok i => some i
      | .error _ =>
        if w < 8 then
          (decodeClock tableConfig { ClockWord.plain .poll with phase := BitVec.ofNat 3 w }).toOption
        else none
    else none
  else if nbits ≤ 32 ∧ w < 2 ^ 29 then some (decodeFrame tableConfig w)
  else none

end Sys2Proof
end

