-- ==== Sys2Proof/Machine/State.lean ====
section
/-! DEFINITION. The state of the block: its eight registers (10_state.md R20), its inputs as data, its design parameters. -/

namespace Sys2Proof.Machine

/-- The block between two clock edges. -/
structure State where
  /-- `STEP` (R21): 0 to 5, the values 6 and 7 reserved. -/
  step : StepCode
  /-- `PERIOD` (R22). -/
  period : Time
  /-- `T_LAST` (R23). -/
  tLast : Time
  /-- `SETPOINT` (R24). -/
  setpoint : SetpointWord
  /-- `PREV` (R25), an `ADC_W`-bit number (log 6). -/
  prev : Nat
  /-- `OUT` (R26). -/
  out : SwWord
  /-- `PHASE` (R27): 0 to 4, the values 5 to 7 reserved. -/
  phase : PhaseCode
  /-- `T_NOW` (R28). -/
  tNow : Time
  /-- The design parameters (R12, R31), written by nothing: the model's own field (log 1). -/
  cfg : Config
  /-- The clocked ports, one record per clock, this clock's first (log 3). -/
  clockIn : List ClockInput
  /-- What the receiver presents at successive POLL clocks, the next first (45_command_interface.md R207; log 4). -/
  rxIn : List RxItem
  /-- Clock edges so far: the model's own field, read by the free port values alone (log 5). -/
  clock : Nat
  deriving DecidableEq, Repr

/-- The model faults of 60_exceptions.md R222: states the hardware never reaches. -/
inductive Fault where
  /-- `STEP >= 6` in a clock without reset (30_encoding.md R75); raised by the fetch of any operation and by a SENSE operation's table
  read. Safe: the spec itself gives the state no next state. -/
  | stepRange
  /-- `PHASE >= 5` in a clock without reset (R76); raised by the fetch. Safe: the spec itself gives the state no next state. -/
  | phaseRange
  deriving DecidableEq, Repr

/-- Reasons for which the model gives no meaning. -/
inductive Refusal where
  /-- An operation without a meaning yet, by its mnemonic. Raised by no arm of `exec`: every operation has its meaning. Safe. -/
  | notModelled (mnemonic : String)
  deriving DecidableEq, Repr

/-- The block right after reset (10_state.md R43), its parameters legal but unknown (log 2), no input listed (log 3, log 4). -/
def State.reset : State where
  step := 0
  period := Config.params.pInit
  tLast := 0
  setpoint := 0
  prev := 0
  out := 0x00
  phase := 0b000
  tNow := 0
  cfg := Config.params
  clockIn := []
  rxIn := []
  clock := 0

end Sys2Proof.Machine
end

