-- ==== Sys2Proof/Machine/Ops.lean ====
section
/-! DEFINITION. The named operations: reading the ports, writing the registers, the driver, consuming an item, the end of a clock,
reset. The block has no memory (20_memory.md R50) and takes no exception (60_exceptions.md R220), so no operation here does either. -/

namespace Sys2Proof.Machine

/-! ### Ports -/

/-- The clocked ports in this clock: the listed record, or free values (log 3). -/
def State.input (s : State) : ClockInput :=
  match s.clockIn with
  | i :: _ => i
  | [] => Config.freeInput s.clock

/-- Port `rst` (R36). -/
def State.rst (s : State) : Bool := s.input.rst

/-- Port `time_now` (R37). -/
def State.timeNow (s : State) : Time := s.input.timeNow

/-- The sense channels: A = 0, B = 1, C = 2 (20_memory.md R51). -/
def ClockInput.channel (i : ClockInput) (ch : Fin 3) : Nat :=
  match ch with
  | 0 => i.vA
  | 1 => i.vB
  | 2 => i.vC

/-- The sample at a sense input, cut to the port's `ADC_W` bits (R40). -/
def State.sense (s : State) (ch : Fin 3) : Nat := ClockInput.channel s.input ch % 2 ^ s.cfg.adcW

/-- The item at the receive port, its identifier cut to the port's `ID_W` bits (R38): the listed item, or free values (log 4). -/
def State.item (s : State) : RxItem :=
  let it := match s.rxIn with
    | x :: _ => x
    | [] => Config.freeItem s.clock
  { it with id := it.id % 2 ^ s.cfg.idW }

/-- The receive port read as the word `F` (30_encoding.md R71, 45_command_interface.md R200). -/
def State.frame (s : State) : Nat := packFrame s.cfg s.item.valid s.item.err s.item.id s.item.d0 s.item.d1

/-- Port `sw` (R41). -/
def State.sw (s : State) : SwWord := s.out

/-- Port `rx_pop` (R39): 1 in a POLL clock that presents an item, 0 in a clock with `rst = 1` (70_reset_and_hazards.md R250). -/
def State.rxPop (s : State) : Bool := !s.rst && decide (s.phase = Phase.poll.code) && s.item.valid

/-! ### Register writes (00_scope.md R16) -/

def State.setStep (s : State) (k : Fin 6) : State := { s with step := BitVec.ofNat 3 k.val }
def State.setPeriod (s : State) (v : Time) : State := { s with period := v }
def State.setTLast (s : State) (v : Time) : State := { s with tLast := v }
def State.setSetpoint (s : State) (v : SetpointWord) : State := { s with setpoint := v }
def State.setPrev (s : State) (v : Nat) : State := { s with prev := v }
def State.setPhase (s : State) (p : Phase) : State := { s with phase := p.code }
def State.setTNow (s : State) (v : Time) : State := { s with tNow := v }

/-- The driver's write of all six switch commands at one edge (42_power_stage_driver.md R141 to R143). -/
def State.drive (s : State) (w : SwWord) : State := { s with out := w }

/-! ### The receiver, the clock edge, reset -/

/-- The receive port moves on to what it presents at the next POLL clock (R39, 45_command_interface.md R207). -/
def State.nextItem (s : State) : State := { s with rxIn := s.rxIn.tail }

/-- The clock edge passes: the next clock's inputs are presented. -/
def State.endClock (s : State) : State := { s with clockIn := s.clockIn.tail, clock := s.clock + 1 }

/-- The register values of 10_state.md R43, loaded by a clock with `rst = 1` and nothing else (R36); no item is consumed
(70_reset_and_hazards.md R250). -/
def State.resetRegs (s : State) : State :=
  { s with
    step := 0
    period := s.cfg.pInit
    tLast := 0
    setpoint := 0
    prev := 0
    out := 0x00
    phase := Phase.poll.code
    tNow := 0 }

end Sys2Proof.Machine
end

