-- ==== Sys2Proof/Machine/Operands.lean ====
section
/-! DEFINITION. The constant tables and the operands the rules compute (42_power_stage_driver.md R140; R120, R160, R180; 30_encoding.md R79). -/

namespace Sys2Proof.Machine

/-! ### The switch configuration (R140); phases A = 0, B = 1, C = 2 -/

/-- `HIGH[k]`. -/
def highTab (k : Fin 6) : Fin 3 :=
  match k with
  | 0 => 0
  | 1 => 0
  | 2 => 1
  | 3 => 1
  | 4 => 2
  | 5 => 2

/-- `LOW[k]`. -/
def lowTab (k : Fin 6) : Fin 3 :=
  match k with
  | 0 => 1
  | 1 => 2
  | 2 => 2
  | 3 => 0
  | 4 => 0
  | 5 => 1

/-- `FLOAT[k]`. -/
def floatTab (k : Fin 6) : Fin 3 :=
  match k with
  | 0 => 2
  | 1 => 1
  | 2 => 0
  | 3 => 2
  | 4 => 1
  | 5 => 0

/-- `SWTAB[k]`. -/
def swTab (k : Fin 6) : SwWord :=
  match k with
  | 0 => 0x09
  | 1 => 0x21
  | 2 => 0x24
  | 3 => 0x06
  | 4 => 0x12
  | 5 => 0x18

/-! ### Scheduler operands (R120, R122) -/

/-- `(STEP + 1) mod 6` (R122). -/
def nextIndex (w : StepCode) : Fin 6 := ⟨(w.toNat + 1) % 6, Nat.mod_lt _ (by decide)⟩

/-- `INTERVAL = PERIOD div 6` (R120). -/
def State.interval (s : State) : Nat := s.period.toNat / nSteps

/-- `time_now -w T_LAST` (R103, R120, R160). -/
def State.sinceLast (s : State) : Time := Time.since s.timeNow s.tLast

/-! ### Detector operands (R160, R161) -/

/-- `sgn3` (00_scope.md R15, D6). -/
def sgn3 (x : Int) : Int := if x > 0 then 1 else if x = 0 then 0 else -1

/-- The comparator: the sign of a sample against the midpoint (R161). -/
def sampleSign (c : Config) (v : Nat) : Int := sgn3 ((v : Int) - (c.vmid : Int))

/-- `V`, the floating phase's sample in step `k` (R160). -/
def State.sample (s : State) (k : Fin 6) : Nat := s.sense (floatTab k)

/-- `trunc_TIME_W(6 * E)`, the period estimate (R162). -/
def State.estimate (s : State) : Time := BitVec.ofNat 32 (6 * s.sinceLast.toNat)

/-! ### Gate operands (R180) -/

/-- `ONTIME = (INTERVAL * SETPOINT) div 1000`, exact. -/
def State.onTime (s : State) : Nat := s.interval * s.setpoint.toNat / spScale

/-- `ELAPSED = T_NOW -w T_LAST`. -/
def State.gateElapsed (s : State) : Time := Time.since s.tNow s.tLast

/-! ### Setpoint operand -/

/-- `{F.d0, F.d1}`, big-endian (30_encoding.md R79, 20_memory.md R53). -/
def setpointValue (d0 d1 : Byte) : SetpointWord := d0 ++ d1

end Sys2Proof.Machine
end

