-- ==== Sys2Proof/Machine/Flags.lean ====
section
/-! DEFINITION. The one-bit quantities that select an operation (30_encoding.md R81). None is stored (10_state.md R30). -/

namespace Sys2Proof.Machine

/-- `ACTIVE = (SETPOINT >= MIN_SPEED)`, unsigned (60_exceptions.md R228). -/
def State.active (s : State) : Bool := decide (s.cfg.minSpeed ≤ s.setpoint.toNat)

/-- The scheduler's trigger `ELAPSED >= INTERVAL` (41_commutation_scheduler.md R120). -/
def State.trigger (s : State) : Bool := decide (s.interval ≤ s.sinceLast.toNat)

/-- The settle test (40_sequencer.md R103). -/
def State.settled (s : State) : Bool := decide (s.cfg.settleTime ≤ s.sinceLast.toNat)

/-- The edge detector on two samples: `CROSS` (43_zero_crossing_detector.md R161). -/
def crossing (c : Config) (v prev : Nat) : Bool := decide (sampleSign c v ≠ sampleSign c prev)

/-- `CROSS` of a SENSE clock in step `k`. -/
def State.cross (s : State) (k : Fin 6) : Bool := crossing s.cfg (s.sample k) s.prev

/-- The on-time test `ELAPSED > ONTIME` (44_speed_modulator.md R182). -/
def State.expired (s : State) : Bool := decide (s.onTime < s.gateElapsed.toNat)

end Sys2Proof.Machine
end

