-- ==== Sys2Proof/Machine/Drive.lean ====
section
/-! DEFINITION. The switch configuration multiplexer (42_power_stage_driver.md): the driver's operations, as the EVAL and GATE
operations call them (30_encoding.md R82; log 10). -/

namespace Sys2Proof.Machine

/-- `DRIVE_STEP0` (R141). -/
def execDriveStep0 (s : State) : Host.Outcome State Fault Refusal := .next (s.drive (swTab 0))

/-- `DRIVE_STEP1` (R141). -/
def execDriveStep1 (s : State) : Host.Outcome State Fault Refusal := .next (s.drive (swTab 1))

/-- `DRIVE_STEP2` (R141). -/
def execDriveStep2 (s : State) : Host.Outcome State Fault Refusal := .next (s.drive (swTab 2))

/-- `DRIVE_STEP3` (R141). -/
def execDriveStep3 (s : State) : Host.Outcome State Fault Refusal := .next (s.drive (swTab 3))

/-- `DRIVE_STEP4` (R141). -/
def execDriveStep4 (s : State) : Host.Outcome State Fault Refusal := .next (s.drive (swTab 4))

/-- `DRIVE_STEP5` (R141). -/
def execDriveStep5 (s : State) : Host.Outcome State Fault Refusal := .next (s.drive (swTab 5))

/-- `DRIVE_ALL_OFF` (R142). -/
def execDriveAllOff (s : State) : Host.Outcome State Fault Refusal := .next (s.drive 0x00)

end Sys2Proof.Machine
end

