-- ==== Sys2Proof/Machine/Eval.lean ====
section
/-! DEFINITION. The minimum-speed gate (40_sequencer.md R102) and the six-step commutation sequencer (41_commutation_scheduler.md). -/

namespace Sys2Proof.Machine

/-- `T_NOW <- time_now`, in every EVAL clock (40_sequencer.md R101). -/
def State.snapshot (s : State) : State := s.setTNow s.timeNow

/-- `EVAL_IDLE` (40_sequencer.md R102). -/
def execEvalIdle (s : State) : Host.Outcome State Fault Refusal :=
  .next ((s.snapshot.drive 0x00).setPhase .poll)

/-- `EVAL_ADVANCE` (R122): the driver is called with the new step. -/
def execEvalAdvance (s : State) : Host.Outcome State Fault Refusal :=
  let n := nextIndex s.step
  .next ((((s.snapshot.setStep n).setTLast s.timeNow).drive (swTab n)).setPhase .settle)

/-- `EVAL_HOLD` (R121). -/
def execEvalHold (s : State) : Host.Outcome State Fault Refusal :=
  .next (s.snapshot.setPhase .gate)

end Sys2Proof.Machine
end

