-- ==== Sys2Proof/Machine/Gate.lean ====
section
/-! DEFINITION. The speed-proportional PWM gate (44_speed_modulator.md). -/

namespace Sys2Proof.Machine

/-- `GATE_OFF` (R182). -/
def execGateOff (s : State) : Host.Outcome State Fault Refusal := .next ((s.drive 0x00).setPhase .poll)

/-- `GATE_KEEP` (R181). -/
def execGateKeep (s : State) : Host.Outcome State Fault Refusal := .next (s.setPhase .poll)

end Sys2Proof.Machine
end

