-- ==== Sys2Proof/Machine/Poll.lean ====
section
/-! DEFINITION. The setpoint command decoder: the POLL operations (45_command_interface.md). -/

namespace Sys2Proof.Machine

/-- What every POLL operation does: the receive port moves on and `PHASE <- EVAL` (R200). -/
def State.polled (s : State) : State := s.nextItem.setPhase .eval

/-- `POLL_SETPOINT` (R201, R206): no clamp, no check. -/
def execPollSetpoint (d0 d1 : Byte) (s : State) : Host.Outcome State Fault Refusal :=
  .next (s.setSetpoint (setpointValue d0 d1)).polled

/-- `POLL_OTHER_ID` (R202). -/
def execPollOtherId (s : State) : Host.Outcome State Fault Refusal := .next s.polled

/-- `POLL_READ_ERROR` (R204). -/
def execPollReadError (s : State) : Host.Outcome State Fault Refusal := .next s.polled

/-- `POLL_NO_FRAME` (R205). -/
def execPollNoFrame (s : State) : Host.Outcome State Fault Refusal := .next s.polled

end Sys2Proof.Machine
end

