-- ==== Sys2Proof/Machine/Sense.lean ====
section
/-! DEFINITION. The zero-crossing detector (43_zero_crossing_detector.md). -/

namespace Sys2Proof.Machine

/-- What every SENSE operation does with the floating phase's sample: `PREV <- V`, `PHASE <- GATE` (R162, R163). A STEP with no
row in `FLOAT` is the model fault of 20_memory.md R52 (log 11). -/
def State.sensed (s : State) : Host.Outcome State Fault Refusal :=
  match decodeStep s.step with
  | .ok k => .next ((s.setPrev (s.sample k)).setPhase .gate)
  | .error _ => .fault .stepRange

/-- `SENSE_CROSS` (R162): `PERIOD` takes the estimate of this clock, whatever `PREV` and the phase become. -/
def execSenseCross (s : State) : Host.Outcome State Fault Refusal :=
  match s.sensed with
  | .next t => .next (t.setPeriod s.estimate)
  | .fault f => .fault f
  | .refused r => .refused r

/-- `SENSE_NOCROSS` (R163). -/
def execSenseNocross (s : State) : Host.Outcome State Fault Refusal := s.sensed

end Sys2Proof.Machine
end

