-- ==== Sys2Proof/Machine/Settle.lean ====
section
/-! DEFINITION. The settle wait (40_sequencer.md R103). -/

namespace Sys2Proof.Machine

/-- `SETTLE_WAIT` (R103). -/
def execSettleWait (s : State) : Host.Outcome State Fault Refusal := .next (s.setPhase .settle)

/-- `SETTLE_DONE` (R103). -/
def execSettleDone (s : State) : Host.Outcome State Fault Refusal := .next (s.setPhase .sense)

end Sys2Proof.Machine
end

