-- ==== Sys2Proof/Machine/Dispatch.lean ====
section
/-! DEFINITION. One arm per operation of the opcode table. -/

namespace Sys2Proof.Machine

/-- The effect of one operation on the registers and the receive port. -/
def exec (i : Instr) (s : State) : Host.Outcome State Fault Refusal :=
  match i with
  | .pollSetpoint d0 d1 => Sys2Proof.Machine.execPollSetpoint d0 d1 s
  | .pollOtherId _ _ _ => Sys2Proof.Machine.execPollOtherId s
  | .pollReadError _ _ _ => Sys2Proof.Machine.execPollReadError s
  | .pollNoFrame _ _ _ _ => Sys2Proof.Machine.execPollNoFrame s
  | .evalIdle => Sys2Proof.Machine.execEvalIdle s
  | .evalAdvance => Sys2Proof.Machine.execEvalAdvance s
  | .evalHold => Sys2Proof.Machine.execEvalHold s
  | .settleWait => Sys2Proof.Machine.execSettleWait s
  | .settleDone => Sys2Proof.Machine.execSettleDone s
  | .senseCross => Sys2Proof.Machine.execSenseCross s
  | .senseNocross => Sys2Proof.Machine.execSenseNocross s
  | .gateOff => Sys2Proof.Machine.execGateOff s
  | .gateKeep => Sys2Proof.Machine.execGateKeep s
  | .driveStep0 => Sys2Proof.Machine.execDriveStep0 s
  | .driveStep1 => Sys2Proof.Machine.execDriveStep1 s
  | .driveStep2 => Sys2Proof.Machine.execDriveStep2 s
  | .driveStep3 => Sys2Proof.Machine.execDriveStep3 s
  | .driveStep4 => Sys2Proof.Machine.execDriveStep4 s
  | .driveStep5 => Sys2Proof.Machine.execDriveStep5 s
  | .driveAllOff => Sys2Proof.Machine.execDriveAllOff s

end Sys2Proof.Machine
end

