-- ==== Sys2Proof/Machine/Fetch.lean ====
section
/-! DEFINITION. How the operation of a clock is selected (30_encoding.md R81, 40_sequencer.md R106), and how a word of the opcode
table is made the next one to run. -/

namespace Sys2Proof.Machine

/-- The clock word: the PHASE register, the FRAME word at the receive port and the selecting conditions, in step `k`. -/
def State.clockWord (s : State) (k : Fin 6) : ClockWord where
  phase := s.phase
  frame := s.frame
  active := s.active
  trigger := s.trigger
  settled := s.settled
  cross := s.cross k
  expired := s.expired

/-- The operation of a clock without reset: `STEP` is checked first, then `PHASE` (40_sequencer.md R106; log 11). -/
def State.fetch (s : State) : Except Fault Instr :=
  match decodeStep s.step with
  | .error _ => .error .stepRange
  | .ok k =>
    match decodeClock s.cfg (s.clockWord k) with
    | .error _ => .error .phaseRange
    | .ok i => .ok i

/-- The edge that ends the clock an operation ran in. -/
def finish : Host.Outcome State Fault Refusal → Host.Outcome State Fault Refusal
  | .next s => .next s.endClock
  | .fault f => .fault f
  | .refused r => .refused r

/-- The edge of a clock with `rst = 1` (70_reset_and_hazards.md R250). -/
def State.resetClock (s : State) : State := s.resetRegs.endClock

/-! ### Table words (log 9) -/

/-- This clock without reset, at time `T_LAST`, every sense input 0. -/
def State.quietClock (s : State) : State :=
  { s with
    clockIn := { rst := false, timeNow := s.tLast, vA := 0, vB := 0, vC := 0 } :: s.clockIn.tail
    cfg := tableConfig }

/-- The machine about to run the operation of a PHASE word whose condition bits are 0. -/
def State.placePhase (s : State) (w : PhaseCode) : State :=
  { s.quietClock with phase := w, setpoint := 0, prev := 0, tNow := s.tLast }

/-- The machine about to make the driver call of step `k`: an advance from the step before `k` is due. -/
def State.placeDrive (s : State) (k : Fin 6) : State :=
  { s.quietClock with
    phase := Phase.eval.code
    setpoint := BitVec.ofNat 16 tableConfig.minSpeed
    step := BitVec.ofNat 3 ((k.val + 5) % 6)
    period := 0 }

/-- The machine about to read a FRAME word at the receive port. -/
def State.placeFrame (s : State) (F : Nat) : State :=
  { s.quietClock with
    phase := Phase.poll.code
    rxIn :=
      { valid := frameValid tableConfig F
        err := frameErr tableConfig F
        id := frameId tableConfig F
        d0 := frameD0 F
        d1 := frameD1 F } :: s.rxIn.tail }

/-- The machine about to run the operation of a table word. -/
def State.placeWord (s : State) (nbits w : Nat) : State :=
  match decodeTableWord nbits w with
  | none => s
  | some .driveStep0 => s.placeDrive 0
  | some .driveStep1 => s.placeDrive 1
  | some .driveStep2 => s.placeDrive 2
  | some .driveStep3 => s.placeDrive 3
  | some .driveStep4 => s.placeDrive 4
  | some .driveStep5 => s.placeDrive 5
  | some .driveAllOff => s.placePhase Phase.eval.code
  | some _ => if nbits ≤ 8 then s.placePhase (BitVec.ofNat 3 w) else s.placeFrame w

end Sys2Proof.Machine
end

