-- ==== Sys2Proof/Machine/Step.lean ====
section
/-! DEFINITION. One rising edge of `clk` (40_sequencer.md R106). -/

namespace Sys2Proof.Machine

/-- Reset overrides every operation (R36, R106, 60_exceptions.md R224); otherwise the clock's one operation runs (R81). -/
def step (s : State) : Host.Outcome State Fault Refusal :=
  if s.rst then .next s.resetClock
  else
    match s.fetch with
    | .error f => .fault f
    | .ok i => finish (exec i s)

/-- The machine about to run the operation of a table word in its very next clock (log 9). -/
def State.withFetchWord (s : State) (nbits w : Nat) : State := s.placeWord nbits w

end Sys2Proof.Machine
end

