-- ==== Sys2Proof/Safety.lean ====
section
/-! DEFINITION. The terms claims are stated in: the invariant of 10_state.md R44, the environment's duty on time, and the spec's own
whole-clock and whole-iteration functions (40_sequencer.md R106, R107), transcribed on their own from its pseudocode, on numbers,
without the decoder, the meanings or the tables of the model. -/

namespace Sys2Proof.Machine

/-- Both switches of some phase are on: a shoot-through word (30_encoding.md R77, 42_power_stage_driver.md R144). -/
def shorted (w : SwWord) : Prop := ∃ p : Nat, p < 3 ∧ w.getLsbD (2 * p) = true ∧ w.getLsbD (2 * p + 1) = true

/-- The invariants of 10_state.md R44, with the width of `PREV` (R20) and the constraints of 00_scope.md R12. -/
structure State.Inv (s : State) : Prop where
  step_lt : s.step.toNat < 6
  phase_lt : s.phase.toNat < 5
  out_word : s.out = 0x00 ∨ ∃ k : Fin 6, s.step.toNat = k.val ∧ s.out = swTab k
  prev_lt : s.prev < 2 ^ s.cfg.adcW
  cfg_valid : s.cfg.Valid

/-- `n` clocks, stopping at a fault or a refusal. -/
def runClocks : Nat → State → Host.Outcome State Fault Refusal
  | 0, s => .next s
  | n + 1, s =>
    match step s with
    | .next t => runClocks n t
    | .fault f => .fault f
    | .refused r => .refused r

/-- What the spec's gate relies on (44_speed_modulator.md R183, 40_sequencer.md R107): from an advance to its GATE the snapshot is the
transition time, and a GATE after a hold finds less than one interval elapsed. -/
structure State.GateReady (s : State) : Prop where
  after_advance : s.phase = Phase.settle.code ∨ s.phase = Phase.sense.code → s.tNow = s.tLast
  at_gate : s.phase = Phase.gate.code → s.tNow = s.tLast ∨ (s.tNow - s.tLast).toNat < s.period.toNat / 6

/-- The item presented is a frame with the recognised identifier (45_command_interface.md R201). -/
abbrev State.matching (s : State) : Prop := s.item.valid = true ∧ s.item.err = false ∧ s.item.id = s.cfg.frameId

/-- The item, at the port of a block with parameters `c`, is a frame with the recognised identifier. -/
abbrev recognised (c : Config) (it : RxItem) : Prop :=
  it.valid = true ∧ it.err = false ∧ it.id % 2 ^ c.idW = c.frameId

/-- The registers of `r`, `n` clocks and `m` items further on in the inputs of `s`. -/
def State.after (r s : State) (n m : Nat) : State :=
  { r with clockIn := s.clockIn.drop n, rxIn := s.rxIn.drop m, clock := s.clock + n }

namespace Spec

/-- The columns High and Low of the table of 42_power_stage_driver.md R140, as numbers; 0 where there is no row. -/
def high (k : Nat) : Nat := [0, 0, 1, 1, 2, 2].getD k 0

def low (k : Nat) : Nat := [1, 2, 2, 0, 0, 1].getD k 0

/-- `SWTAB[k] = (1 << (2 * HIGH[k])) | (1 << (2 * LOW[k] + 1))` (R140). -/
def swtab (k : Nat) : SwWord := BitVec.ofNat 6 (2 ^ (2 * high k) + 2 ^ (2 * low k + 1))

/-- `FLOAT[k] = 3 - HIGH[k] - LOW[k]` (R140). -/
def float (k : Nat) : Nat := 3 - high k - low k

/-- `a -w b` on numbers (00_scope.md R15). -/
def subW (a b : Time) : Nat := (a.toNat + (2 ^ 32 - b.toNat)) % 2 ^ 32

/-- `sgn3(a - b)` for two numbers, by comparison (R15). -/
def sgnDiff (a b : Nat) : Int := if b < a then 1 else if a = b then 0 else -1

/-- `v[c]` cut to `ADC_W` bits (40_sequencer.md R106). -/
def sample (c : Config) (i : ClockInput) (ch : Nat) : Nat :=
  (if ch = 0 then i.vA else if ch = 1 then i.vB else i.vC) % 2 ^ c.adcW

/-- `SETPOINT` after a POLL clock that presents `it` (45_command_interface.md R201 to R205). -/
def polledSetpoint (c : Config) (it : RxItem) (old : SetpointWord) : SetpointWord :=
  if it.valid = true ∧ it.err = false ∧ it.id = c.frameId then BitVec.ofNat 16 (256 * it.d0.toNat + it.d1.toNat) else old

/-- `PERIOD` after a SENSE clock that reads `v` at elapsed time `e` (43_zero_crossing_detector.md R161 to R163). -/
def sensedPeriod (c : Config) (v prev e : Nat) (old : Time) : Time :=
  if sgnDiff v c.vmid ≠ sgnDiff prev c.vmid then BitVec.ofNat 32 (6 * e) else old

/-- `OUT` after a GATE clock (44_speed_modulator.md R180 to R182). -/
def gatedOut (s : State) : SwWord :=
  if subW s.tNow s.tLast > s.period.toNat / 6 * s.setpoint.toNat / 1000 then 0x00 else s.out

/-- `Step(s, in)` of 40_sequencer.md R106, `in` being this clock's inputs. -/
def clockStep (s : State) : Host.Outcome State Fault Refusal :=
  let i := s.input
  let t := { s with clockIn := s.clockIn.tail, clock := s.clock + 1 }
  if i.rst = true then
    .next { t with step := 0, period := s.cfg.pInit, tLast := 0, setpoint := 0, prev := 0, out := 0, phase := 0, tNow := 0 }
  else if s.step.toNat ≥ 6 then .fault .stepRange
  else if s.phase = 0 then
    .next { t with setpoint := polledSetpoint s.cfg s.item s.setpoint, phase := 1, rxIn := s.rxIn.tail }
  else if s.phase = 1 then
    if s.setpoint.toNat < s.cfg.minSpeed then
      .next { t with tNow := i.timeNow, out := 0, phase := 0 }
    else if subW i.timeNow s.tLast ≥ s.period.toNat / 6 then
      .next { t with
        tNow := i.timeNow
        step := BitVec.ofNat 3 ((s.step.toNat + 1) % 6)
        tLast := i.timeNow
        out := swtab ((s.step.toNat + 1) % 6)
        phase := 2 }
    else .next { t with tNow := i.timeNow, phase := 4 }
  else if s.phase = 2 then
    .next { t with phase := if subW i.timeNow s.tLast ≥ s.cfg.settleTime then 3 else 2 }
  else if s.phase = 3 then
    .next { t with
      period := sensedPeriod s.cfg (sample s.cfg i (float s.step.toNat)) s.prev (subW i.timeNow s.tLast) s.period
      prev := sample s.cfg i (float s.step.toNat)
      phase := 4 }
  else if s.phase = 4 then
    .next { t with out := gatedOut s, phase := 0 }
  else .fault .phaseRange

/-- `Iter(s, item, T, Tz, V3)` of 40_sequencer.md R107 on the registers of `s`, in three parts: the first is what POLL and EVAL do
before the scheduler. -/
def iterStart (s : State) (it : RxItem) (T : Time) : State :=
  { s with setpoint := polledSetpoint s.cfg it s.setpoint, tNow := T }

/-- The advance of `Iter`: the new step, the detector. -/
def iterAdvance (s : State) (T : Time) (z : ClockInput) : State :=
  let n := (s.step.toNat + 1) % 6
  let v := sample s.cfg z (float n)
  { s with
    step := BitVec.ofNat 3 n
    tLast := T
    out := swtab n
    period := sensedPeriod s.cfg v s.prev (subW z.timeNow T) s.period
    prev := v }

/-- `Iter`: `e` holds the inputs of its EVAL clock and `z` those of its SENSE clock. -/
def iter (s : State) (it : RxItem) (e z : ClockInput) : State :=
  let u := iterStart s it e.timeNow
  if u.setpoint.toNat < u.cfg.minSpeed then { u with out := 0 }
  else
    let w := if subW e.timeNow u.tLast ≥ u.period.toNat / 6 then iterAdvance u e.timeNow z else u
    { w with out := gatedOut w }

end Spec

end Sys2Proof.Machine
end

