-- ==== Sys2Proof/Certificates/Slice0/Obligations.lean ====
section
/-! DEFINITION. The statements about the model, each with the rule of spec/ it formalises. -/

open Sys2Proof Sys2Proof.Machine

/-! ### Encodings -/

/-- R71: where the five fields of the word `F` read at the receive port lie, and that the decoder's field readers find them. -/
def Obligations.FrameFieldsLieAtTheirBits : Prop :=
  ∀ s : State,
    s.frame < 2 ^ (s.cfg.idW + 18) ∧
    (∀ j, j < 8 → s.frame.testBit j = s.item.d1.getLsbD j) ∧
    (∀ j, j < 8 → s.frame.testBit (8 + j) = s.item.d0.getLsbD j) ∧
    (∀ j, j < s.cfg.idW → s.frame.testBit (16 + j) = s.item.id.testBit j) ∧
    s.frame.testBit (s.cfg.idW + 16) = s.item.err ∧
    s.frame.testBit (s.cfg.idW + 17) = s.item.valid ∧
    frameD1 s.frame = s.item.d1 ∧ frameD0 s.frame = s.item.d0 ∧ frameId s.cfg s.frame = s.item.id ∧
    frameErr s.cfg s.frame = s.item.err ∧ frameValid s.cfg s.frame = s.item.valid

/-- Decode and encode agree on every well-formed operation, under every legal choice of the parameters. The condition bits beside a
PHASE word are the model's packing (log 12). -/
def Obligations.DecodeOfEncodeIsTheOperation : Prop :=
  ∀ (c : Config) (i : Instr), c.Valid → i.wf c = true → decode c (encode c i) = .ok i

/-- Encode and decode agree on every FRAME word: no bit of it is dropped. Keeping unread fields as operands is the model's choice (log
13). -/
def Obligations.EncodeOfDecodedFrameIsTheWord : Prop :=
  ∀ (c : Config) (F : Nat), F < 2 ^ (c.idW + 18) →
    encode c (decodeFrame c F) = .clock (ClockWord.ofFrame F) ∧ (c.Valid → (decodeFrame c F).wf c = true)

/-- The count the spec derives in 30_encoding.md R77: seven SW words are produced, 37 are shoot-through words, 27 are free of it. -/
def Obligations.SevenSwitchWordsAreProduced : Prop :=
  (∀ w : SwWord, (decodeSw w).toBool = true ↔ w ∈ ([0x00, 0x09, 0x21, 0x24, 0x06, 0x12, 0x18] : List SwWord)) ∧
  ((List.finRange 64).countP fun k => decide (decodeSw (BitVec.ofFin k) = .error .shootThrough)) = 37 ∧
  ((List.finRange 64).countP fun k => shootThrough (BitVec.ofFin k)) = 37 ∧
  ((List.finRange 64).countP fun k => decide (decodeSw (BitVec.ofFin k) = .error .neverProduced)) = 20

/-- Words written out from the spec's encodings (95_test_vectors.md V-P1, V-P6, V-P8, V-P10; 30_encoding.md R74; R140), one family
each, decode to the operations they stand for, at the table's instantiation. -/
def Obligations.WrittenOutWordsDecode : Prop :=
  decodeFrame tableConfig 0x110001F4 = .pollSetpoint 0x01 0xF4 ∧
  decodeFrame tableConfig 0x150003E8 = .pollOtherId 0x500 0x03 0xE8 ∧
  decodeFrame tableConfig 0x190003E8 = .pollReadError 0x100 0x03 0xE8 ∧
  decodeFrame tableConfig 0x090003E8 = .pollNoFrame true 0x100 0x03 0xE8 ∧
  decodePhase 0b001 = .ok .eval ∧ decodePhase 0b100 = .ok .gate ∧
  decodeSw 0b100100 = .ok .driveStep2 ∧ decodeSw 0b000000 = .ok .driveAllOff

/-- R81: the operation map. In a clock with a legal STEP, each row's condition on the registers and ports selects that row. -/
def Obligations.OperationMapSelectsTheRow : Prop :=
  ∀ s : State, s.step.toNat < 6 →
    (s.phase = 0b000 →
      (s.item.valid = true → s.item.err = false → s.item.id = s.cfg.frameId → s.fetch = .ok (.pollSetpoint s.item.d0 s.item.d1)) ∧
      (s.item.valid = true → s.item.err = false → s.item.id ≠ s.cfg.frameId →
        s.fetch = .ok (.pollOtherId s.item.id s.item.d0 s.item.d1)) ∧
      (s.item.valid = true → s.item.err = true → s.fetch = .ok (.pollReadError s.item.id s.item.d0 s.item.d1)) ∧
      (s.item.valid = false → s.fetch = .ok (.pollNoFrame s.item.err s.item.id s.item.d0 s.item.d1))) ∧
    (s.phase = 0b001 →
      (s.setpoint.toNat < s.cfg.minSpeed → s.fetch = .ok .evalIdle) ∧
      (s.cfg.minSpeed ≤ s.setpoint.toNat → s.period.toNat / 6 ≤ (s.timeNow - s.tLast).toNat → s.fetch = .ok .evalAdvance) ∧
      (s.cfg.minSpeed ≤ s.setpoint.toNat → (s.timeNow - s.tLast).toNat < s.period.toNat / 6 → s.fetch = .ok .evalHold)) ∧
    (s.phase = 0b010 →
      ((s.timeNow - s.tLast).toNat < s.cfg.settleTime → s.fetch = .ok .settleWait) ∧
      (s.cfg.settleTime ≤ (s.timeNow - s.tLast).toNat → s.fetch = .ok .settleDone)) ∧
    (s.phase = 0b011 →
      ∀ k : Fin 6, k.val = s.step.toNat →
        (Int.sign ((s.sample k : Int) - s.cfg.vmid) ≠ Int.sign ((s.prev : Int) - s.cfg.vmid) → s.fetch = .ok .senseCross) ∧
        (Int.sign ((s.sample k : Int) - s.cfg.vmid) = Int.sign ((s.prev : Int) - s.cfg.vmid) → s.fetch = .ok .senseNocross)) ∧
    (s.phase = 0b100 →
      (s.period.toNat / 6 * s.setpoint.toNat / 1000 < (s.tNow - s.tLast).toNat → s.fetch = .ok .gateOff) ∧
      ((s.tNow - s.tLast).toNat ≤ s.period.toNat / 6 * s.setpoint.toNat / 1000 → s.fetch = .ok .gateKeep))

/-- Every operation a clock selects is one some word encodes. -/
def Obligations.FetchedOperationIsWellFormed : Prop :=
  ∀ (s : State) (i : Instr), s.fetch = .ok i → i.wf s.cfg = true

/-! ### The switch table -/

/-- R140: the switch table. Its columns High and Low are the source's, its word and its floating phase are computed from them as the rule
says, and the words are those of its last column. -/
def Obligations.SwitchTableFollowsItsColumns : Prop :=
  (∀ k : Fin 6, swTab k = BitVec.ofNat 6 (1 <<< (2 * (highTab k).val) ||| 1 <<< (2 * (lowTab k).val + 1)) ∧
    (floatTab k).val = 3 - (highTab k).val - (lowTab k).val) ∧
  ([0, 1, 2, 3, 4, 5] : List (Fin 6)).map (fun k => ((highTab k).val, (lowTab k).val, (floatTab k).val)) =
    [(0, 1, 2), (0, 2, 1), (1, 2, 0), (1, 0, 2), (2, 0, 1), (2, 1, 0)] ∧
  ([0, 1, 2, 3, 4, 5] : List (Fin 6)).map swTab = [0x09, 0x21, 0x24, 0x06, 0x12, 0x18]

/-- Derived in 42_power_stage_driver.md R145: between consecutive steps exactly one switch turns off and one turns on, on different
phases. -/
def Obligations.ConsecutiveStepsSwapOneSwitch : Prop :=
  ∀ k n : Fin 6, n.val = (k.val + 1) % 6 →
    ∃ off on : Fin 6, off.val / 2 ≠ on.val / 2 ∧
      (swTab k).getLsbD off.val = true ∧ (swTab n).getLsbD off.val = false ∧
      (swTab k).getLsbD on.val = false ∧ (swTab n).getLsbD on.val = true ∧
      ∀ b : Fin 6, b ≠ off → b ≠ on → (swTab k).getLsbD b.val = (swTab n).getLsbD b.val

/-- Derived in 42_power_stage_driver.md R146: a phase floats in two steps three apart and never in two consecutive steps. -/
def Obligations.FloatingPhasesAreThreeStepsApart : Prop :=
  ∀ k m n : Fin 6, m.val = (k.val + 3) % 6 → n.val = (k.val + 1) % 6 → floatTab k = floatTab m ∧ floatTab k ≠ floatTab n

/-! ### Each operation completes, with its result and its frame -/

/-- R201, R79, R53: `POLL_SETPOINT` stores `256 * d0 + d1` as it is and changes nothing but `SETPOINT`, `PHASE` and what the receive port
presents next (log 4); a frame with the recognised identifier selects it, with that frame's bytes, and is popped. -/
def Obligations.PollSetpointStoresTheBigEndianValue : Prop :=
  (∀ (s : State) (d0 d1 : Byte), ∃ (v : SetpointWord) (rx : List RxItem), v.toNat = d0.toNat * 256 + d1.toNat ∧
    exec (.pollSetpoint d0 d1) s = .next { s with setpoint := v, phase := 0b001, rxIn := rx }) ∧
  (∀ s : State, s.rst = false → s.step.toNat < 6 → s.phase = 0b000 →
    s.item.valid = true → s.item.err = false → s.item.id = s.cfg.frameId →
    s.rxPop = true ∧ s.fetch = .ok (.pollSetpoint s.item.d0 s.item.d1))

/-- R202, R204, R205: the other POLL operations change nothing but `PHASE` and what the receive port presents next (log 4); what selects
each, and whether an item is popped. -/
def Obligations.OtherPollsOnlyMoveOn : Prop :=
  (∀ (s : State) (err : Bool) (id : Nat) (d0 d1 : Byte), ∃ rx : List RxItem,
    exec (.pollOtherId id d0 d1) s = .next { s with phase := 0b001, rxIn := rx } ∧
    exec (.pollReadError id d0 d1) s = .next { s with phase := 0b001, rxIn := rx } ∧
    exec (.pollNoFrame err id d0 d1) s = .next { s with phase := 0b001, rxIn := rx }) ∧
  (∀ s : State, s.rst = false → s.step.toNat < 6 → s.phase = 0b000 →
    (s.item.valid = true → s.item.err = false → s.item.id ≠ s.cfg.frameId →
      s.rxPop = true ∧ s.fetch = .ok (.pollOtherId s.item.id s.item.d0 s.item.d1)) ∧
    (s.item.valid = true → s.item.err = true →
      s.rxPop = true ∧ s.fetch = .ok (.pollReadError s.item.id s.item.d0 s.item.d1)) ∧
    (s.item.valid = false →
      s.rxPop = false ∧ s.fetch = .ok (.pollNoFrame s.item.err s.item.id s.item.d0 s.item.d1)))

/-- R102: `EVAL_IDLE` takes the time snapshot, turns every switch off and returns to POLL; nothing else changes. It is selected below
`MIN_SPEED`. -/
def Obligations.EvalIdleTurnsEverythingOff : Prop :=
  ∀ s : State,
    exec .evalIdle s = .next { s with tNow := s.timeNow, out := 0x00, phase := 0b000 } ∧
    (s.step.toNat < 6 → s.phase = 0b001 → s.setpoint.toNat < s.cfg.minSpeed → s.fetch = .ok .evalIdle)

/-- R122: `EVAL_ADVANCE` moves to the next step modulo 6, records the transition time and applies the new step's word; nothing else
changes. It is selected, at or above `MIN_SPEED`, when `ELAPSED >= INTERVAL`. -/
def Obligations.EvalAdvanceAppliesTheNextStep : Prop :=
  ∀ s : State,
    (∃ (k : StepCode) (w : SwWord), k.toNat = (s.step.toNat + 1) % 6 ∧
      ([0x09, 0x21, 0x24, 0x06, 0x12, 0x18] : List SwWord)[k.toNat]? = some w ∧
      exec .evalAdvance s =
        .next { s with tNow := s.timeNow, step := k, tLast := s.timeNow, out := w, phase := 0b010 }) ∧
    (s.step.toNat < 6 → s.phase = 0b001 → s.cfg.minSpeed ≤ s.setpoint.toNat →
      s.period.toNat / 6 ≤ (s.timeNow - s.tLast).toNat → s.fetch = .ok .evalAdvance)

/-- R121: `EVAL_HOLD` takes the time snapshot and goes to GATE; nothing else changes. It is selected, at or above `MIN_SPEED`, when
`ELAPSED < INTERVAL`. -/
def Obligations.EvalHoldOnlyTakesTheTime : Prop :=
  ∀ s : State,
    exec .evalHold s = .next { s with tNow := s.timeNow, phase := 0b100 } ∧
    (s.step.toNat < 6 → s.phase = 0b001 → s.cfg.minSpeed ≤ s.setpoint.toNat →
      (s.timeNow - s.tLast).toNat < s.period.toNat / 6 → s.fetch = .ok .evalHold)

/-- R103: the SETTLE operations write `PHASE` alone, pop nothing, and are selected by the elapsed time against `SETTLE_TIME`. -/
def Obligations.SettleWritesOnlyThePhase : Prop :=
  ∀ s : State,
    exec .settleWait s = .next { s with phase := 0b010 } ∧
    exec .settleDone s = .next { s with phase := 0b011 } ∧
    (s.phase = 0b010 → s.rxPop = false) ∧
    (s.step.toNat < 6 → s.phase = 0b010 → (s.timeNow - s.tLast).toNat < s.cfg.settleTime → s.fetch = .ok .settleWait) ∧
    (s.step.toNat < 6 → s.phase = 0b010 → s.cfg.settleTime ≤ (s.timeNow - s.tLast).toNat → s.fetch = .ok .settleDone)

/-- R162 with R160, R161: `SENSE_CROSS` estimates the period as six times the elapsed time modulo `2^32`, and keeps the floating phase's
sample `v`; nothing else changes. The floating phase is C, B, A, C, B, A in steps 0 to 5. It is selected when the signs of
`v - VMID` and `PREV - VMID` differ. -/
def Obligations.SenseCrossEstimatesThePeriod : Prop :=
  ∀ s : State, s.step.toNat < 6 → ∃ (v : Nat) (p : Time),
    [s.input.vC, s.input.vB, s.input.vA, s.input.vC, s.input.vB, s.input.vA][s.step.toNat]?.map (· % 2 ^ s.cfg.adcW) = some v ∧
    p.toNat = 6 * (s.timeNow - s.tLast).toNat % 2 ^ 32 ∧
    exec .senseCross s = .next { s with period := p, prev := v, phase := 0b100 } ∧
    (s.phase = 0b011 → Int.sign ((v : Int) - s.cfg.vmid) ≠ Int.sign ((s.prev : Int) - s.cfg.vmid) → s.fetch = .ok .senseCross)

/-- R163 with R160, R161: `SENSE_NOCROSS` keeps the floating phase's sample `v` and leaves `PERIOD`; nothing else changes. It is selected
when the signs of `v - VMID` and `PREV - VMID` agree. -/
def Obligations.SenseNocrossKeepsThePeriod : Prop :=
  ∀ s : State, s.step.toNat < 6 → ∃ v : Nat,
    [s.input.vC, s.input.vB, s.input.vA, s.input.vC, s.input.vB, s.input.vA][s.step.toNat]?.map (· % 2 ^ s.cfg.adcW) = some v ∧
    exec .senseNocross s = .next { s with prev := v, phase := 0b100 } ∧
    (s.phase = 0b011 → Int.sign ((v : Int) - s.cfg.vmid) = Int.sign ((s.prev : Int) - s.cfg.vmid) → s.fetch = .ok .senseNocross)

/-- A SENSE operation that meets `STEP` 6 or 7 at its table read is the model fault `STEP_RANGE` (20_memory.md R52, which the spec
derives; where the model checks is log 11). -/
def Obligations.SenseFaultsOnAReservedStep : Prop :=
  ∀ s : State, 6 ≤ s.step.toNat → exec .senseCross s = .fault .stepRange ∧ exec .senseNocross s = .fault .stepRange

/-- R181, R182 with R180: `GATE_OFF` turns every switch off, `GATE_KEEP` leaves `OUT`; both return to POLL and change nothing else. The
elapsed time of the snapshot against the exact `ONTIME` selects. -/
def Obligations.GateWritesOnlyTheSwitches : Prop :=
  ∀ s : State,
    exec .gateOff s = .next { s with out := 0x00, phase := 0b000 } ∧
    exec .gateKeep s = .next { s with phase := 0b000 } ∧
    (s.step.toNat < 6 → s.phase = 0b100 →
      s.period.toNat / 6 * s.setpoint.toNat / 1000 < (s.tNow - s.tLast).toNat → s.fetch = .ok .gateOff) ∧
    (s.step.toNat < 6 → s.phase = 0b100 →
      (s.tNow - s.tLast).toNat ≤ s.period.toNat / 6 * s.setpoint.toNat / 1000 → s.fetch = .ok .gateKeep)

/-- 42_power_stage_driver.md R141: each `DRIVE_STEP k` writes its word of the table whole. That it writes nothing else as an operation of
its own, `PHASE` included, is the model's reading (log 10). -/
def Obligations.DriveStepWritesItsWord : Prop :=
  ∀ s : State,
    exec .driveStep0 s = .next { s with out := 0x09 } ∧
    exec .driveStep1 s = .next { s with out := 0x21 } ∧
    exec .driveStep2 s = .next { s with out := 0x24 } ∧
    exec .driveStep3 s = .next { s with out := 0x06 } ∧
    exec .driveStep4 s = .next { s with out := 0x12 } ∧
    exec .driveStep5 s = .next { s with out := 0x18 }

/-- 42_power_stage_driver.md R142: `DRIVE_ALL_OFF` writes `0x00`, and is idempotent. That it writes nothing else as an operation of its own,
`PHASE` included, is the model's reading (log 10). -/
def Obligations.DriveAllOffClearsTheSwitches : Prop :=
  ∀ s : State, exec .driveAllOff s = .next { s with out := 0x00 } ∧ (s.out = 0x00 → exec .driveAllOff s = .next s)

/-- R82: `DRIVE_STEP k` writes `SWTAB[k]` and `DRIVE_ALL_OFF` writes `0x00`, the word of their row; `EVAL_ADVANCE` makes the driver call of
the next step, and `EVAL_IDLE` and `GATE_OFF` that of `DRIVE_ALL_OFF`: they leave in `OUT` what the call leaves there. -/
def Obligations.CallersWriteWhatTheDriverWrites : Prop :=
  ∀ s t d : State,
    (∀ (k : Fin 6) (i : Instr), decodeSw (swTab k) = .ok i → exec i s = .next d → d.out = swTab k) ∧
    (decodeSw 0x00 = .ok .driveAllOff ∧ (exec .driveAllOff s = .next d → d.out = 0x00)) ∧
    (∀ (k : Fin 6) (i : Instr), k.val = (s.step.toNat + 1) % 6 → decodeSw (swTab k) = .ok i →
      exec .evalAdvance s = .next t → exec i s = .next d → t.out = d.out) ∧
    (exec .evalIdle s = .next t → exec .driveAllOff s = .next d → t.out = d.out) ∧
    (exec .gateOff s = .next t → exec .driveAllOff s = .next d → t.out = d.out)

/-! ### One clock -/

/-- In a clock without reset whose word decodes to `i`, `step` is `exec i` and then the clock edge, which moves the inputs on. The
clock word, the list of inputs and the clock counter are the model's (log 12, log 3, log 5). -/
def Obligations.StepRunsTheDecodedOperation : Prop :=
  ∀ (s : State) (k : Fin 6) (i : Instr), s.rst = false → s.step.toNat = k.val → decode s.cfg (.clock (s.clockWord k)) = .ok i →
    step s = match exec i s with
      | .next t => .next { t with clockIn := t.clockIn.tail, clock := t.clock + 1 }
      | .fault f => .fault f
      | .refused r => .refused r

/-- One clock of the model, its decoder and meanings composed, is the spec's `Step` (40_sequencer.md R106, which the spec derives from its
operation rules); with the outputs of R39, R41 and R250. How the inputs pass from clock to clock is the model's (log 3, log 4, log 5). -/
def Obligations.StepIsTheSpecsClockStep : Prop :=
  ∀ s : State,
    step s = Spec.clockStep s ∧ s.sw = s.out ∧
    (s.rxPop = true ↔ s.rst = false ∧ s.phase = 0b000 ∧ s.item.valid = true)

/-- 60_exceptions.md R222, 30_encoding.md R75 and R76: the two model faults arise exactly on the reserved encodings. `STEP` first and never
under reset is the order of R106 (log 11). Nothing is refused. -/
def Obligations.ModelFaultsAreTheReservedEncodings : Prop :=
  ∀ s : State,
    (∀ f, step s = .fault f ↔
      s.rst = false ∧ ((f = .stepRange ∧ 6 ≤ s.step.toNat) ∨ (f = .phaseRange ∧ s.step.toNat < 6 ∧ 5 ≤ s.phase.toNat))) ∧
    (∀ r, step s ≠ .refused r)

/-- R250, R36, R43: a clock with `rst = 1` loads the reset values from any state, a reserved encoding included, consumes no item, and
changes nothing else but the model's own record of the clocks (log 3, log 5). -/
def Obligations.ResetClockLoadsTheResetValues : Prop :=
  ∀ s : State, s.rst = true → s.rxPop = false ∧ ∃ (is : List ClockInput) (n : Nat),
    step s = .next { s with
      step := 0, period := s.cfg.pInit, tLast := 0, setpoint := 0, prev := 0, out := 0x00, phase := 0b000, tNow := 0
      clockIn := is, clock := n }

/-- R43: the registers after reset, `PERIOD` at `P_INIT`, which is at least 1. -/
def Obligations.ResetStateHoldsTheResetValues : Prop :=
  State.reset.step = 0 ∧ State.reset.period = State.reset.cfg.pInit ∧ 1 ≤ State.reset.period.toNat ∧ State.reset.tLast = 0 ∧
  State.reset.setpoint = 0 ∧ State.reset.prev = 0 ∧ State.reset.out = 0x00 ∧ State.reset.phase = 0b000 ∧ State.reset.tNow = 0

/-! ### Invariants -/

/-- The invariants the spec derives in 10_state.md R44, at reset. -/
def Obligations.ResetStateHasTheInvariant : Prop := State.reset.Inv

/-- Derived in 10_state.md R44 and 40_sequencer.md R106: from every state with the invariants of R44, whatever the inputs, a clock gives a
next state, and it has them. -/
def Obligations.StepKeepsTheInvariant : Prop :=
  ∀ s : State, s.Inv → ∃ t, step s = .next t ∧ t.Inv

/-- Derived in 42_power_stage_driver.md R144: from a state with the invariants of R44, no number of clocks gives a state that commands both
switches of a phase on. -/
def Obligations.NoRunShortsAPhase : Prop :=
  ∀ (n : Nat) (s t : State), s.Inv → runClocks n s = .next t → ¬ shorted t.sw

/-- What the gate relies on, at reset: `PHASE` is POLL there (10_state.md R43). -/
def Obligations.ResetStateIsGateReady : Prop := State.reset.GateReady

/-- Derived in 44_speed_modulator.md R183 and 40_sequencer.md R107: what the gate finds elapsed is less than an interval after a hold and
nothing after an advance, from every state of which this holds. -/
def Obligations.StepKeepsGateReady : Prop :=
  ∀ s t : State, s.GateReady → step s = .next t → t.GateReady

/-- Derived in 44_speed_modulator.md R183, R184: with `SETPOINT >= 1000` the gate never switches off; and in 70_reset_and_hazards.md R261:
nor with `PERIOD < 6`. -/
def Obligations.FullSpeedGateNeverSwitchesOff : Prop :=
  ∀ s : State, s.GateReady → s.step.toNat < 6 → s.phase = 0b100 → 1000 ≤ s.setpoint.toNat ∨ s.period.toNat < 6 →
    s.fetch = .ok .gateKeep

/-! ### Who writes what -/

/-- R229, R228: outside reset `SETPOINT` changes only in a POLL clock that presents a frame with the recognised identifier. -/
def Obligations.OnlyAMatchingFrameWritesTheSetpoint : Prop :=
  ∀ s t : State, step s = .next t → s.rst = false → t.setpoint ≠ s.setpoint →
    s.phase = 0b000 ∧ s.matching ∧ s.rxPop = true ∧ t.setpoint.toNat = 256 * s.item.d0.toNat + s.item.d1.toNat

/-- Derived in 41_commutation_scheduler.md R123: outside reset `STEP` changes only by an advance, to the next step modulo 6, with its
transition time and its switch word. -/
def Obligations.StepAdvancesByOneModuloSix : Prop :=
  ∀ s t : State, step s = .next t → s.rst = false → t.step ≠ s.step →
    s.phase = 0b001 ∧ s.cfg.minSpeed ≤ s.setpoint.toNat ∧ s.period.toNat / 6 ≤ (s.timeNow - s.tLast).toNat ∧
    t.step.toNat = (s.step.toNat + 1) % 6 ∧ t.tLast = s.timeNow ∧ t.out = Spec.swtab t.step.toNat ∧ t.phase = 0b010

/-- R230: outside reset `PERIOD` changes only in a SENSE clock that flags a crossing, to six times the elapsed time. -/
def Obligations.OnlyACrossingWritesThePeriod : Prop :=
  ∀ s t : State, step s = .next t → s.rst = false → t.period ≠ s.period →
    s.phase = 0b011 ∧ (∃ k : Fin 6, k.val = s.step.toNat ∧ crossing s.cfg (s.sample k) s.prev = true) ∧
    t.period.toNat = 6 * (s.timeNow - s.tLast).toNat % 2 ^ 32

/-- R101, R23: `T_NOW` takes the time in every EVAL clock and in no other; `T_LAST` changes only where the step advances. -/
def Obligations.TimeRegistersAreWrittenInEval : Prop :=
  ∀ s t : State, step s = .next t → s.rst = false →
    (s.phase = 0b001 → t.tNow = s.timeNow) ∧ (s.phase ≠ 0b001 → t.tNow = s.tNow) ∧
    (t.tLast ≠ s.tLast → t.tLast = s.timeNow ∧ t.step ≠ s.step)

/-- R25: `PREV` takes the floating phase's sample in every SENSE clock and is left alone in every other. -/
def Obligations.PrevIsWrittenInEverySense : Prop :=
  ∀ s t : State, step s = .next t → s.rst = false →
    (s.phase = 0b011 → t.prev = Spec.sample s.cfg s.input (Spec.float s.step.toNat)) ∧ (s.phase ≠ 0b011 → t.prev = s.prev)

/-- R20, R143: outside reset `OUT` changes only to all off (an idle EVAL or a GATE) or, on an advance, to the new step's word. -/
def Obligations.OutIsWrittenByEvalAndGate : Prop :=
  ∀ s t : State, step s = .next t → s.rst = false → t.out ≠ s.out →
    (t.out = 0x00 ∧ ((s.phase = 0b001 ∧ s.setpoint.toNat < s.cfg.minSpeed) ∨ s.phase = 0b100)) ∨
    (t.out = Spec.swtab t.step.toNat ∧ t.step.toNat < 6 ∧ s.phase = 0b001 ∧ t.step ≠ s.step)

/-- R39, R105: the receive port moves on in POLL clocks only; in every other phase no item is consumed and `SETPOINT` stays. R250: in a clock
with `rst = 1` no item is consumed, in POLL either. The list of items is the model's form of R207 (log 4). -/
def Obligations.ItemsAreConsumedInPollOnly : Prop :=
  ∀ s t : State, step s = .next t →
    (s.rst = false → s.phase = 0b000 → t.rxIn = s.rxIn.tail ∧ s.rxPop = s.item.valid) ∧
    (s.rst = false → s.phase ≠ 0b000 → t.rxIn = s.rxIn ∧ s.rxPop = false ∧ t.setpoint = s.setpoint) ∧
    (s.rst = true → t.rxIn = s.rxIn ∧ s.rxPop = false)

/-- R31: the design-time constants are no registers: no clock, and no operation, changes them. That they stand in the state is the
model's choice (log 1). -/
def Obligations.DesignParametersNeverChange : Prop :=
  (∀ s t : State, step s = .next t → t.cfg = s.cfg) ∧ (∀ (i : Instr) (s t : State), exec i s = .next t → t.cfg = s.cfg)

/-- R40 with R37: a clock depends on its sense inputs only in SENSE, and then on the floating phase's alone; on the time only in EVAL,
SETTLE and SENSE. Inputs that differ elsewhere give the same outcome. -/
def Obligations.UnreadInputsHaveNoEffect : Prop :=
  ∀ (s : State) (i j : ClockInput) (rest : List ClockInput),
    s.clockIn = i :: rest → i.rst = j.rst →
    (s.phase = 0b001 ∨ s.phase = 0b010 ∨ s.phase = 0b011 → i.timeNow = j.timeNow) →
    (s.phase = 0b011 → ∀ k : Fin 6, k.val = s.step.toNat →
      ClockInput.channel i (floatTab k) % 2 ^ s.cfg.adcW = ClockInput.channel j (floatTab k) % 2 ^ s.cfg.adcW) →
    step { s with clockIn := j :: rest } = step s

/-! ### Iterations -/

/-- R107, an idle iteration: POLL and EVAL. The spec derives `Iter`; the inputs as lists are the model's (log 3, log 4). -/
def Obligations.IdleIterationIsIter : Prop :=
  ∀ (s : State) (p e z : ClockInput) (rest : List ClockInput),
    s.phase = 0b000 → s.step.toNat < 6 → s.clockIn = p :: e :: rest → p.rst = false → e.rst = false →
    (Spec.polledSetpoint s.cfg s.item s.setpoint).toNat < s.cfg.minSpeed →
    runClocks 2 s = .next ((Spec.iter s s.item e z).after s 2 1)

/-- R107, a hold iteration: POLL, EVAL and GATE. The spec derives `Iter`; the inputs as lists are the model's (log 3, log 4). -/
def Obligations.HoldIterationIsIter : Prop :=
  ∀ (s : State) (p e g z : ClockInput) (rest : List ClockInput),
    s.phase = 0b000 → s.step.toNat < 6 → s.clockIn = p :: e :: g :: rest → p.rst = false → e.rst = false → g.rst = false →
    s.cfg.minSpeed ≤ (Spec.polledSetpoint s.cfg s.item s.setpoint).toNat →
    Spec.subW e.timeNow s.tLast < s.period.toNat / 6 →
    runClocks 3 s = .next ((Spec.iter s s.item e z).after s 3 1)

/-- R107 with R100, an advance iteration: POLL, EVAL, any number of SETTLE clocks that wait and one that ends the wait, SENSE and
GATE. The spec derives `Iter`; the inputs as lists are the model's (log 3, log 4). -/
def Obligations.AdvanceIterationIsIter : Prop :=
  ∀ (s : State) (p e d z g : ClockInput) (waits rest : List ClockInput),
    s.phase = 0b000 → s.step.toNat < 6 → s.clockIn = p :: e :: (waits ++ d :: z :: g :: rest) →
    (∀ i ∈ p :: e :: d :: z :: g :: waits, i.rst = false) →
    s.cfg.minSpeed ≤ (Spec.polledSetpoint s.cfg s.item s.setpoint).toNat →
    s.period.toNat / 6 ≤ Spec.subW e.timeNow s.tLast →
    (∀ w ∈ waits, Spec.subW w.timeNow e.timeNow < s.cfg.settleTime) → s.cfg.settleTime ≤ Spec.subW d.timeNow e.timeNow →
    runClocks (waits.length + 5) s = .next ((Spec.iter s s.item e z).after s (waits.length + 5) 1)

/-- R125, R228: however many idle iterations pass without a matching frame, the scheduler's and the detector's registers and the
setpoint hold, and the switches are off after the first. The spec derives it; the inputs as lists are the model's (log 3, log 4). -/
def Obligations.IdlingHoldsTheSchedulerState : Prop :=
  ∀ (n : Nat) (s : State), s.phase = 0b000 → s.step.toNat < 6 → s.setpoint.toNat < s.cfg.minSpeed →
    2 * n ≤ s.clockIn.length → n ≤ s.rxIn.length → (∀ i ∈ s.clockIn.take (2 * n), i.rst = false) →
    (∀ it ∈ s.rxIn.take n, ¬ recognised s.cfg it) →
    ∃ t, runClocks (2 * n) s = .next t ∧ t.phase = 0b000 ∧ t.step = s.step ∧ t.period = s.period ∧ t.tLast = s.tLast ∧
      t.prev = s.prev ∧ t.setpoint = s.setpoint ∧ (1 ≤ n → t.out = 0x00)

/-- R257: while the time at every SETTLE clock falls short of `SETTLE_TIME`, the block stays in SETTLE, energised, serving nothing,
for any number of clocks. The spec derives it; the inputs as a list are the model's (log 3, log 5). -/
def Obligations.SettleHangsWhileTimeFallsShort : Prop :=
  ∀ (n : Nat) (s : State), s.phase = 0b010 → s.step.toNat < 6 → n ≤ s.clockIn.length →
    (∀ i ∈ s.clockIn.take n, i.rst = false ∧ (i.timeNow - s.tLast).toNat < s.cfg.settleTime) →
    runClocks n s = .next { s with clockIn := s.clockIn.drop n, clock := s.clock + n }

/-- R104, R63: a SENSE clock comes only after the settle time has elapsed, if the elapsed time did not fall meanwhile, so what the
detector measures is at least 1. The spec derives it. -/
def Obligations.SenseComesAfterTheSettleTime : Prop :=
  ∀ s t : State, s.cfg.Valid → step s = .next t → t.phase = 0b011 →
    s.phase = 0b010 ∧ s.cfg.settleTime ≤ (s.timeNow - s.tLast).toNat ∧ t.tLast = s.tLast ∧ t.out = s.out ∧
    ((s.timeNow - s.tLast).toNat ≤ (t.timeNow - t.tLast).toNat →
      t.cfg.settleTime ≤ (t.timeNow - t.tLast).toNat ∧ 1 ≤ (t.timeNow - t.tLast).toNat)

/-- R208: a matching frame below `MIN_SPEED` has every switch off at the end of the next EVAL clock, whatever the commutation state.
The spec derives it. -/
def Obligations.LowSetpointIsOffWithinOneIteration : Prop :=
  ∀ (s : State) (p e : ClockInput) (rest : List ClockInput),
    s.phase = 0b000 → s.step.toNat < 6 → s.clockIn = p :: e :: rest → p.rst = false → e.rst = false → s.matching →
    256 * s.item.d0.toNat + s.item.d1.toNat < s.cfg.minSpeed →
    ∃ t, runClocks 2 s = .next t ∧ t.sw = 0x00 ∧ t.phase = 0b000 ∧ t.step = s.step ∧
      t.setpoint.toNat = 256 * s.item.d0.toNat + s.item.d1.toNat

/-- R253: the first advance after reset goes from step 0 to step 1 and applies 0x21, and the detector then reads phase B against 0.
The spec derives it. -/
def Obligations.FirstAdvanceAfterResetIsStepOne : Prop :=
  ∀ (s t : State) (p e : ClockInput) (rest : List ClockInput),
    s.rst = true → step s = .next t → t.clockIn = p :: e :: rest → p.rst = false → e.rst = false →
    (Spec.polledSetpoint t.cfg t.item 0).toNat ≥ t.cfg.minSpeed → t.cfg.pInit.toNat / 6 ≤ e.timeNow.toNat →
    ∃ u, runClocks 2 t = .next u ∧ u.step = 1 ∧ u.sw = 0x21 ∧ u.tLast = e.timeNow ∧ u.prev = 0 ∧ u.phase = 0b010 ∧
      u.sample 1 = u.input.vB % 2 ^ u.cfg.adcW

/-! ### The estimator and the gate -/

/-- R166: while six times the elapsed time fits, a crossing makes the interval exactly the elapsed time. The spec derives it. -/
def Obligations.CrossingMakesTheIntervalTheElapsedTime : Prop :=
  ∀ s t : State, exec .senseCross s = .next t → 6 * (s.timeNow - s.tLast).toNat < 2 ^ 32 →
    t.period.toNat = 6 * (s.timeNow - s.tLast).toNat ∧ t.interval = (s.timeNow - s.tLast).toNat

/-- R263, C3: a crossing leaves `PERIOD = 0` exactly for an elapsed time of 0 or, by wrap, of `2^31`. The spec derives it. -/
def Obligations.PeriodIsZeroExactlyAtZeroOrHalf : Prop :=
  ∀ s t : State, exec .senseCross s = .next t →
    (t.period = 0 ↔ (s.timeNow - s.tLast).toNat = 0 ∨ (s.timeNow - s.tLast).toNat = 2 ^ 31)

/-- R166, R167: what a SENSE clock writes to `PERIOD` depends on the time alone: two states that differ in samples, `PREV`, the
midpoint and anything else but the time, `T_LAST` and `PERIOD` write the same value if both write. The spec derives it. -/
def Obligations.EstimateNeverDependsOnASample : Prop :=
  ∀ s s' t t' : State, step s = .next t → step s' = .next t' → s.rst = false → s'.rst = false → s.phase = 0b011 → s'.phase = 0b011 →
    s.timeNow = s'.timeNow → s.tLast = s'.tLast → s.period = s'.period → t.period ≠ s.period → t'.period ≠ s'.period →
    t.period = t'.period

/-- R258: after a crossing whose estimate did not wrap, the EVAL clock of the next iteration, if active and no earlier than the SENSE
clock, advances. The spec derives it. -/
def Obligations.IterationAfterACrossingAdvances : Prop :=
  ∀ (s u : State) (z g p : ClockInput) (rest : List ClockInput) (k : Fin 6),
    s.phase = 0b011 → s.step.toNat = k.val → s.clockIn = z :: g :: p :: rest → z.rst = false → g.rst = false → p.rst = false →
    crossing s.cfg (s.sample k) s.prev = true → 6 * (z.timeNow - s.tLast).toNat < 2 ^ 32 →
    runClocks 3 s = .next u → u.cfg.minSpeed ≤ u.setpoint.toNat → (z.timeNow - s.tLast).toNat ≤ (u.timeNow - u.tLast).toNat →
    u.phase = 0b001 ∧ u.fetch = .ok .evalAdvance

/-- R187, R186: `ONTIME` is at most the real-number value `PERIOD * SETPOINT / 6000` and below it by less than `SETPOINT / 1000 + 1`
(both times 6000), and the worked values. The spec derives it. -/
def Obligations.OnTimeIsTheFlooredShare : Prop :=
  ∀ s : State,
    6000 * s.onTime ≤ s.period.toNat * s.setpoint.toNat ∧
    s.period.toNat * s.setpoint.toNat < 6000 * s.onTime + 6 * s.setpoint.toNat + 6000 ∧
    (s.period = 6000 → s.setpoint = 500 → s.onTime = 500) ∧
    (s.period = 6005 → s.setpoint = 333 → s.onTime = 333)

/-- R185, R183: below full scale the on-time is at most the interval; at full scale it is the interval. The spec derives it. -/
def Obligations.OnTimeAgainstTheInterval : Prop :=
  ∀ s : State,
    (s.setpoint.toNat ≤ 1000 → s.onTime ≤ s.period.toNat / 6) ∧
    (s.setpoint.toNat = 1000 → s.onTime = s.period.toNat / 6) ∧
    (1000 ≤ s.setpoint.toNat → s.period.toNat / 6 ≤ s.onTime)
end

