-- ==== Sys2Proof/Laws/Decode.lean ====
section
/-! SUPPORT. The small lemmas of the decoder and of the FRAME word. -/

namespace Sys2Proof

/-! ### STEP and PHASE -/

theorem decodeStep_of_lt {w : StepCode} (h : w.toNat < 6) : decodeStep w = .ok ⟨w.toNat, h⟩ := by
  simp [decodeStep, h]

theorem decodeStep_of_ge {w : StepCode} (h : 6 ≤ w.toNat) : decodeStep w = .error .stepRange := by
  simp [decodeStep, Nat.not_lt.mpr h]

theorem decodeStep_eq_ok {w : StepCode} {k : Fin 6} (h : w.toNat = k.val) : decodeStep w = .ok k := by
  rw [decodeStep_of_lt (h ▸ k.isLt)]
  exact congrArg _ (Fin.ext h)

theorem decodeStep_ok {w : StepCode} {k : Fin 6} (h : decodeStep w = .ok k) : w.toNat = k.val := by
  by_cases hw : w.toNat < 6
  · rw [decodeStep_of_lt hw] at h
    cases h
    rfl
  · rw [decodeStep_of_ge (by omega)] at h
    cases h

@[simp] theorem decodePhase_code (p : Phase) : decodePhase p.code = .ok p := by cases p <;> rfl

theorem decodePhase_of_ge {w : PhaseCode} (h : 5 ≤ w.toNat) : decodePhase w = .error .phaseRange := by
  revert w; decide

/-- A PHASE word is a code in use or reserved. -/
theorem phase_cases (w : PhaseCode) : (∃ p : Phase, w = p.code) ∨ 5 ≤ w.toNat := by
  have h : w = Phase.poll.code ∨ w = Phase.eval.code ∨ w = Phase.settle.code ∨ w = Phase.sense.code ∨ w = Phase.gate.code ∨
      5 ≤ w.toNat := by revert w; decide
  rcases h with h | h | h | h | h | h
  · exact .inl ⟨_, h⟩
  · exact .inl ⟨_, h⟩
  · exact .inl ⟨_, h⟩
  · exact .inl ⟨_, h⟩
  · exact .inl ⟨_, h⟩
  · exact .inr h

theorem decodePhase_ok {w : PhaseCode} {p : Phase} (h : decodePhase w = .ok p) : w = p.code := by
  rcases phase_cases w with ⟨q, rfl⟩ | hw
  · rw [decodePhase_code] at h
    cases h
    rfl
  · rw [decodePhase_of_ge hw] at h
    cases h

theorem Phase.code_injective {p q : Phase} (h : p.code = q.code) : p = q := by
  have := congrArg decodePhase h
  simpa using this

theorem decodeClock_of_phase (c : Config) (w : ClockWord) {p : Phase} (h : w.phase = p.code) :
    decodeClock c w = match p with
      | .poll => .ok (decodeFrame c w.frame)
      | .eval => .ok (if w.active then (if w.trigger then .evalAdvance else .evalHold) else .evalIdle)
      | .settle => .ok (if w.settled then .settleDone else .settleWait)
      | .sense => .ok (if w.cross then .senseCross else .senseNocross)
      | .gate => .ok (if w.expired then .gateOff else .gateKeep) := by
  simp only [decodeClock, h, decodePhase_code]
  cases p <;> rfl

theorem decodeClock_of_ge (c : Config) (w : ClockWord) (h : 5 ≤ w.phase.toNat) : decodeClock c w = .error .phaseRange := by
  simp [decodeClock, decodePhase_of_ge h]

/-- The only clock words that stand for nothing are those of a reserved PHASE (30_encoding.md R76, R78). -/
theorem decodeClock_error {c : Config} {w : ClockWord} {r : Reject} (h : decodeClock c w = .error r) :
    r = .phaseRange ∧ 5 ≤ w.phase.toNat := by
  rcases phase_cases w.phase with ⟨p, hp⟩ | hp
  · rw [decodeClock_of_phase c w hp] at h
    cases p <;> cases h
  · rw [decodeClock_of_ge c w hp] at h
    exact ⟨(Except.error.inj h).symm, hp⟩

/-! ### The FRAME word -/

section
variable (c : Config) (v e : Bool) (id : Nat) (d0 d1 : Byte)

/-- The word above its payload: `valid`, `err` and `id`. -/
theorem packFrame_high : packFrame c v e id d0 d1 / 2 ^ 16 = (v.toNat * 2 + e.toNat) * 2 ^ c.idW + id % 2 ^ c.idW := by
  have h0 := d0.isLt
  have h1 := d1.isLt
  unfold packFrame
  generalize (v.toNat * 2 + e.toNat) * 2 ^ c.idW + id % 2 ^ c.idW = x
  omega

theorem packFrame_lt : packFrame c v e id d0 d1 < 2 ^ (c.idW + 18) := by
  have h0 := d0.isLt
  have h1 := d1.isLt
  have hid := Nat.mod_lt id (Nat.two_pow_pos c.idW)
  have hve : (v.toNat * 2 + e.toNat) * 2 ^ c.idW ≤ 3 * 2 ^ c.idW :=
    Nat.mul_le_mul_right _ (by cases v <;> cases e <;> decide)
  rw [show c.idW + 18 = c.idW + 2 + 16 from rfl, Nat.pow_add, Nat.pow_add]
  unfold packFrame
  omega

@[simp] theorem frameD1_packFrame : frameD1 (packFrame c v e id d0 d1) = d1 := by
  have h1 := d1.isLt
  apply BitVec.eq_of_toNat_eq
  simp only [frameD1, packFrame, BitVec.toNat_ofNat]
  omega

@[simp] theorem frameD0_packFrame : frameD0 (packFrame c v e id d0 d1) = d0 := by
  have h0 := d0.isLt
  have h1 := d1.isLt
  apply BitVec.eq_of_toNat_eq
  simp only [frameD0, packFrame, BitVec.toNat_ofNat]
  omega

@[simp] theorem frameId_packFrame : frameId c (packFrame c v e id d0 d1) = id % 2 ^ c.idW := by
  rw [frameId, packFrame_high, Nat.mul_add_mod', Nat.mod_mod]

/-- `valid` and `err` above the identifier. -/
theorem packFrame_flags : packFrame c v e id d0 d1 / 2 ^ 16 / 2 ^ c.idW = v.toNat * 2 + e.toNat := by
  rw [packFrame_high, Nat.mul_comm, Nat.mul_add_div (Nat.two_pow_pos _),
    Nat.div_eq_of_lt (Nat.mod_lt _ (Nat.two_pow_pos _)), Nat.add_zero]

@[simp] theorem frameErr_packFrame : frameErr c (packFrame c v e id d0 d1) = e := by
  rw [frameErr, packFrame_flags]
  cases v <;> cases e <;> rfl

@[simp] theorem frameValid_packFrame : frameValid c (packFrame c v e id d0 d1) = v := by
  rw [frameValid, packFrame_flags]
  cases v <;> cases e <;> rfl

/-- The operation a packed word selects, from its fields. -/
theorem decodeFrame_packFrame :
    decodeFrame c (packFrame c v e id d0 d1) =
      if v then
        if e then .pollReadError (id % 2 ^ c.idW) d0 d1
        else if id % 2 ^ c.idW = c.frameId then .pollSetpoint d0 d1
        else .pollOtherId (id % 2 ^ c.idW) d0 d1
      else .pollNoFrame e (id % 2 ^ c.idW) d0 d1 := by
  simp [decodeFrame]

end

/-- A FRAME word is made of its fields. -/
theorem packFrame_fields (c : Config) {F : Nat} (h : F < 2 ^ (c.idW + 18)) :
    packFrame c (frameValid c F) (frameErr c F) (frameId c F) (frameD0 F) (frameD1 F) = F := by
  have hq : F / 2 ^ 16 / 2 ^ c.idW < 4 := by
    rw [Nat.div_div_eq_div_mul, ← Nat.pow_add, Nat.div_lt_iff_lt_mul (Nat.two_pow_pos _)]
    calc F < 2 ^ (c.idW + 18) := h
      _ = 4 * 2 ^ (16 + c.idW) := by rw [show c.idW + 18 = 2 + (16 + c.idW) by omega, Nat.pow_add]
  have hve : (frameValid c F).toNat * 2 + (frameErr c F).toNat = F / 2 ^ 16 / 2 ^ c.idW := by
    unfold frameValid frameErr
    generalize F / 2 ^ 16 / 2 ^ c.idW = q at hq
    revert q; decide
  unfold packFrame
  rw [hve, frameId, Nat.mod_mod, Nat.mul_comm (F / 2 ^ 16 / 2 ^ c.idW), Nat.div_add_mod]
  simp only [frameD0, frameD1, BitVec.toNat_ofNat]
  omega

end Sys2Proof
end

