-- ==== Sys2Proof/Laws/State.lean ====
section
/-! SUPPORT. One lemma per field per update, each true by rfl. -/

namespace Sys2Proof.Machine

variable (s : State)

@[simp] theorem State.setStep_step (k : Fin 6) : (s.setStep k).step = BitVec.ofNat 3 k.val := rfl
@[simp] theorem State.setStep_period (k : Fin 6) : (s.setStep k).period = s.period := rfl
@[simp] theorem State.setStep_tLast (k : Fin 6) : (s.setStep k).tLast = s.tLast := rfl
@[simp] theorem State.setStep_setpoint (k : Fin 6) : (s.setStep k).setpoint = s.setpoint := rfl
@[simp] theorem State.setStep_prev (k : Fin 6) : (s.setStep k).prev = s.prev := rfl
@[simp] theorem State.setStep_out (k : Fin 6) : (s.setStep k).out = s.out := rfl
@[simp] theorem State.setStep_phase (k : Fin 6) : (s.setStep k).phase = s.phase := rfl
@[simp] theorem State.setStep_tNow (k : Fin 6) : (s.setStep k).tNow = s.tNow := rfl
@[simp] theorem State.setStep_cfg (k : Fin 6) : (s.setStep k).cfg = s.cfg := rfl
@[simp] theorem State.setStep_clockIn (k : Fin 6) : (s.setStep k).clockIn = s.clockIn := rfl
@[simp] theorem State.setStep_rxIn (k : Fin 6) : (s.setStep k).rxIn = s.rxIn := rfl
@[simp] theorem State.setStep_clock (k : Fin 6) : (s.setStep k).clock = s.clock := rfl

@[simp] theorem State.setPeriod_step (v : Time) : (s.setPeriod v).step = s.step := rfl
@[simp] theorem State.setPeriod_period (v : Time) : (s.setPeriod v).period = v := rfl
@[simp] theorem State.setPeriod_tLast (v : Time) : (s.setPeriod v).tLast = s.tLast := rfl
@[simp] theorem State.setPeriod_setpoint (v : Time) : (s.setPeriod v).setpoint = s.setpoint := rfl
@[simp] theorem State.setPeriod_prev (v : Time) : (s.setPeriod v).prev = s.prev := rfl
@[simp] theorem State.setPeriod_out (v : Time) : (s.setPeriod v).out = s.out := rfl
@[simp] theorem State.setPeriod_phase (v : Time) : (s.setPeriod v).phase = s.phase := rfl
@[simp] theorem State.setPeriod_tNow (v : Time) : (s.setPeriod v).tNow = s.tNow := rfl
@[simp] theorem State.setPeriod_cfg (v : Time) : (s.setPeriod v).cfg = s.cfg := rfl
@[simp] theorem State.setPeriod_clockIn (v : Time) : (s.setPeriod v).clockIn = s.clockIn := rfl
@[simp] theorem State.setPeriod_rxIn (v : Time) : (s.setPeriod v).rxIn = s.rxIn := rfl
@[simp] theorem State.setPeriod_clock (v : Time) : (s.setPeriod v).clock = s.clock := rfl

@[simp] theorem State.setTLast_step (v : Time) : (s.setTLast v).step = s.step := rfl
@[simp] theorem State.setTLast_period (v : Time) : (s.setTLast v).period = s.period := rfl
@[simp] theorem State.setTLast_tLast (v : Time) : (s.setTLast v).tLast = v := rfl
@[simp] theorem State.setTLast_setpoint (v : Time) : (s.setTLast v).setpoint = s.setpoint := rfl
@[simp] theorem State.setTLast_prev (v : Time) : (s.setTLast v).prev = s.prev := rfl
@[simp] theorem State.setTLast_out (v : Time) : (s.setTLast v).out = s.out := rfl
@[simp] theorem State.setTLast_phase (v : Time) : (s.setTLast v).phase = s.phase := rfl
@[simp] theorem State.setTLast_tNow (v : Time) : (s.setTLast v).tNow = s.tNow := rfl
@[simp] theorem State.setTLast_cfg (v : Time) : (s.setTLast v).cfg = s.cfg := rfl
@[simp] theorem State.setTLast_clockIn (v : Time) : (s.setTLast v).clockIn = s.clockIn := rfl
@[simp] theorem State.setTLast_rxIn (v : Time) : (s.setTLast v).rxIn = s.rxIn := rfl
@[simp] theorem State.setTLast_clock (v : Time) : (s.setTLast v).clock = s.clock := rfl

@[simp] theorem State.setSetpoint_step (v : SetpointWord) : (s.setSetpoint v).step = s.step := rfl
@[simp] theorem State.setSetpoint_period (v : SetpointWord) : (s.setSetpoint v).period = s.period := rfl
@[simp] theorem State.setSetpoint_tLast (v : SetpointWord) : (s.setSetpoint v).tLast = s.tLast := rfl
@[simp] theorem State.setSetpoint_setpoint (v : SetpointWord) : (s.setSetpoint v).setpoint = v := rfl
@[simp] theorem State.setSetpoint_prev (v : SetpointWord) : (s.setSetpoint v).prev = s.prev := rfl
@[simp] theorem State.setSetpoint_out (v : SetpointWord) : (s.setSetpoint v).out = s.out := rfl
@[simp] theorem State.setSetpoint_phase (v : SetpointWord) : (s.setSetpoint v).phase = s.phase := rfl
@[simp] theorem State.setSetpoint_tNow (v : SetpointWord) : (s.setSetpoint v).tNow = s.tNow := rfl
@[simp] theorem State.setSetpoint_cfg (v : SetpointWord) : (s.setSetpoint v).cfg = s.cfg := rfl
@[simp] theorem State.setSetpoint_clockIn (v : SetpointWord) : (s.setSetpoint v).clockIn = s.clockIn := rfl
@[simp] theorem State.setSetpoint_rxIn (v : SetpointWord) : (s.setSetpoint v).rxIn = s.rxIn := rfl
@[simp] theorem State.setSetpoint_clock (v : SetpointWord) : (s.setSetpoint v).clock = s.clock := rfl

@[simp] theorem State.setPrev_step (v : Nat) : (s.setPrev v).step = s.step := rfl
@[simp] theorem State.setPrev_period (v : Nat) : (s.setPrev v).period = s.period := rfl
@[simp] theorem State.setPrev_tLast (v : Nat) : (s.setPrev v).tLast = s.tLast := rfl
@[simp] theorem State.setPrev_setpoint (v : Nat) : (s.setPrev v).setpoint = s.setpoint := rfl
@[simp] theorem State.setPrev_prev (v : Nat) : (s.setPrev v).prev = v := rfl
@[simp] theorem State.setPrev_out (v : Nat) : (s.setPrev v).out = s.out := rfl
@[simp] theorem State.setPrev_phase (v : Nat) : (s.setPrev v).phase = s.phase := rfl
@[simp] theorem State.setPrev_tNow (v : Nat) : (s.setPrev v).tNow = s.tNow := rfl
@[simp] theorem State.setPrev_cfg (v : Nat) : (s.setPrev v).cfg = s.cfg := rfl
@[simp] theorem State.setPrev_clockIn (v : Nat) : (s.setPrev v).clockIn = s.clockIn := rfl
@[simp] theorem State.setPrev_rxIn (v : Nat) : (s.setPrev v).rxIn = s.rxIn := rfl
@[simp] theorem State.setPrev_clock (v : Nat) : (s.setPrev v).clock = s.clock := rfl

@[simp] theorem State.setPhase_step (p : Phase) : (s.setPhase p).step = s.step := rfl
@[simp] theorem State.setPhase_period (p : Phase) : (s.setPhase p).period = s.period := rfl
@[simp] theorem State.setPhase_tLast (p : Phase) : (s.setPhase p).tLast = s.tLast := rfl
@[simp] theorem State.setPhase_setpoint (p : Phase) : (s.setPhase p).setpoint = s.setpoint := rfl
@[simp] theorem State.setPhase_prev (p : Phase) : (s.setPhase p).prev = s.prev := rfl
@[simp] theorem State.setPhase_out (p : Phase) : (s.setPhase p).out = s.out := rfl
@[simp] theorem State.setPhase_phase (p : Phase) : (s.setPhase p).phase = p.code := rfl
@[simp] theorem State.setPhase_tNow (p : Phase) : (s.setPhase p).tNow = s.tNow := rfl
@[simp] theorem State.setPhase_cfg (p : Phase) : (s.setPhase p).cfg = s.cfg := rfl
@[simp] theorem State.setPhase_clockIn (p : Phase) : (s.setPhase p).clockIn = s.clockIn := rfl
@[simp] theorem State.setPhase_rxIn (p : Phase) : (s.setPhase p).rxIn = s.rxIn := rfl
@[simp] theorem State.setPhase_clock (p : Phase) : (s.setPhase p).clock = s.clock := rfl

@[simp] theorem State.setTNow_step (v : Time) : (s.setTNow v).step = s.step := rfl
@[simp] theorem State.setTNow_period (v : Time) : (s.setTNow v).period = s.period := rfl
@[simp] theorem State.setTNow_tLast (v : Time) : (s.setTNow v).tLast = s.tLast := rfl
@[simp] theorem State.setTNow_setpoint (v : Time) : (s.setTNow v).setpoint = s.setpoint := rfl
@[simp] theorem State.setTNow_prev (v : Time) : (s.setTNow v).prev = s.prev := rfl
@[simp] theorem State.setTNow_out (v : Time) : (s.setTNow v).out = s.out := rfl
@[simp] theorem State.setTNow_phase (v : Time) : (s.setTNow v).phase = s.phase := rfl
@[simp] theorem State.setTNow_tNow (v : Time) : (s.setTNow v).tNow = v := rfl
@[simp] theorem State.setTNow_cfg (v : Time) : (s.setTNow v).cfg = s.cfg := rfl
@[simp] theorem State.setTNow_clockIn (v : Time) : (s.setTNow v).clockIn = s.clockIn := rfl
@[simp] theorem State.setTNow_rxIn (v : Time) : (s.setTNow v).rxIn = s.rxIn := rfl
@[simp] theorem State.setTNow_clock (v : Time) : (s.setTNow v).clock = s.clock := rfl

@[simp] theorem State.drive_step (w : SwWord) : (s.drive w).step = s.step := rfl
@[simp] theorem State.drive_period (w : SwWord) : (s.drive w).period = s.period := rfl
@[simp] theorem State.drive_tLast (w : SwWord) : (s.drive w).tLast = s.tLast := rfl
@[simp] theorem State.drive_setpoint (w : SwWord) : (s.drive w).setpoint = s.setpoint := rfl
@[simp] theorem State.drive_prev (w : SwWord) : (s.drive w).prev = s.prev := rfl
@[simp] theorem State.drive_out (w : SwWord) : (s.drive w).out = w := rfl
@[simp] theorem State.drive_phase (w : SwWord) : (s.drive w).phase = s.phase := rfl
@[simp] theorem State.drive_tNow (w : SwWord) : (s.drive w).tNow = s.tNow := rfl
@[simp] theorem State.drive_cfg (w : SwWord) : (s.drive w).cfg = s.cfg := rfl
@[simp] theorem State.drive_clockIn (w : SwWord) : (s.drive w).clockIn = s.clockIn := rfl
@[simp] theorem State.drive_rxIn (w : SwWord) : (s.drive w).rxIn = s.rxIn := rfl
@[simp] theorem State.drive_clock (w : SwWord) : (s.drive w).clock = s.clock := rfl

@[simp] theorem State.nextItem_step : (s.nextItem).step = s.step := rfl
@[simp] theorem State.nextItem_period : (s.nextItem).period = s.period := rfl
@[simp] theorem State.nextItem_tLast : (s.nextItem).tLast = s.tLast := rfl
@[simp] theorem State.nextItem_setpoint : (s.nextItem).setpoint = s.setpoint := rfl
@[simp] theorem State.nextItem_prev : (s.nextItem).prev = s.prev := rfl
@[simp] theorem State.nextItem_out : (s.nextItem).out = s.out := rfl
@[simp] theorem State.nextItem_phase : (s.nextItem).phase = s.phase := rfl
@[simp] theorem State.nextItem_tNow : (s.nextItem).tNow = s.tNow := rfl
@[simp] theorem State.nextItem_cfg : (s.nextItem).cfg = s.cfg := rfl
@[simp] theorem State.nextItem_clockIn : (s.nextItem).clockIn = s.clockIn := rfl
@[simp] theorem State.nextItem_rxIn : (s.nextItem).rxIn = s.rxIn.tail := rfl
@[simp] theorem State.nextItem_clock : (s.nextItem).clock = s.clock := rfl

@[simp] theorem State.endClock_step : (s.endClock).step = s.step := rfl
@[simp] theorem State.endClock_period : (s.endClock).period = s.period := rfl
@[simp] theorem State.endClock_tLast : (s.endClock).tLast = s.tLast := rfl
@[simp] theorem State.endClock_setpoint : (s.endClock).setpoint = s.setpoint := rfl
@[simp] theorem State.endClock_prev : (s.endClock).prev = s.prev := rfl
@[simp] theorem State.endClock_out : (s.endClock).out = s.out := rfl
@[simp] theorem State.endClock_phase : (s.endClock).phase = s.phase := rfl
@[simp] theorem State.endClock_tNow : (s.endClock).tNow = s.tNow := rfl
@[simp] theorem State.endClock_cfg : (s.endClock).cfg = s.cfg := rfl
@[simp] theorem State.endClock_clockIn : (s.endClock).clockIn = s.clockIn.tail := rfl
@[simp] theorem State.endClock_rxIn : (s.endClock).rxIn = s.rxIn := rfl
@[simp] theorem State.endClock_clock : (s.endClock).clock = s.clock + 1 := rfl

@[simp] theorem State.resetRegs_step : (s.resetRegs).step = 0 := rfl
@[simp] theorem State.resetRegs_period : (s.resetRegs).period = s.cfg.pInit := rfl
@[simp] theorem State.resetRegs_tLast : (s.resetRegs).tLast = 0 := rfl
@[simp] theorem State.resetRegs_setpoint : (s.resetRegs).setpoint = 0 := rfl
@[simp] theorem State.resetRegs_prev : (s.resetRegs).prev = 0 := rfl
@[simp] theorem State.resetRegs_out : (s.resetRegs).out = 0 := rfl
@[simp] theorem State.resetRegs_phase : (s.resetRegs).phase = Phase.poll.code := rfl
@[simp] theorem State.resetRegs_tNow : (s.resetRegs).tNow = 0 := rfl
@[simp] theorem State.resetRegs_cfg : (s.resetRegs).cfg = s.cfg := rfl
@[simp] theorem State.resetRegs_clockIn : (s.resetRegs).clockIn = s.clockIn := rfl
@[simp] theorem State.resetRegs_rxIn : (s.resetRegs).rxIn = s.rxIn := rfl
@[simp] theorem State.resetRegs_clock : (s.resetRegs).clock = s.clock := rfl

end Sys2Proof.Machine
end

