-- ==== Sys2Proof/Laws/Machine.lean ====
section
/-! SUPPORT. What each shared operation can do, said once, for the proofs to cite. -/

namespace Sys2Proof.Machine

/-! ### The ports -/

theorem State.input_of_cons {s : State} {i : ClockInput} {is : List ClockInput} (h : s.clockIn = i :: is) : s.input = i := by
  simp [State.input, h]

/-- An identifier read at the port fits the port. -/
theorem State.item_id_lt (s : State) : s.item.id < 2 ^ s.cfg.idW := Nat.mod_lt _ (Nat.two_pow_pos _)

theorem State.sense_lt (s : State) (ch : Fin 3) : s.sense ch < 2 ^ s.cfg.adcW := Nat.mod_lt _ (Nat.two_pow_pos _)

/-- The inputs are read from `clockIn`, `clock`, `rxIn` and `cfg` alone. -/
theorem State.input_congr {s t : State} (h : s.clockIn = t.clockIn) (hc : s.clock = t.clock) : s.input = t.input := by
  simp [State.input, h, hc]

theorem State.item_congr {s t : State} (h : s.rxIn = t.rxIn) (hc : s.clock = t.clock) (hf : s.cfg = t.cfg) : s.item = t.item := by
  simp [State.item, h, hc, hf]

/-! ### Operands -/

@[simp] theorem nextIndex_val (w : StepCode) : (nextIndex w).val = (w.toNat + 1) % 6 := rfl

@[simp] theorem toNat_ofNat_step (k : Fin 6) : (BitVec.ofNat 3 k.val).toNat = k.val := by
  have := k.isLt
  simp only [BitVec.toNat_ofNat]
  omega

theorem setpointValue_toNat (d0 d1 : Byte) : (setpointValue d0 d1).toNat = d0.toNat * 256 + d1.toNat := by
  rw [setpointValue, BitVec.toNat_append, Nat.shiftLeft_eq, Nat.mul_comm, ← Nat.two_pow_add_eq_or_of_lt d1.isLt, Nat.mul_comm]

theorem State.estimate_toNat (s : State) : s.estimate.toNat = 6 * (s.timeNow - s.tLast).toNat % 2 ^ 32 := by
  simp [State.estimate, State.sinceLast]

/-- Six times a 32-bit number is 0 modulo `2^32` only for 0 and `2^31` (70_reset_and_hazards.md R263). -/
theorem six_mul_mod_eq_zero {E : Nat} (h : E < 2 ^ 32) : 6 * E % 2 ^ 32 = 0 ↔ E = 0 ∨ E = 2 ^ 31 := by
  have e : 6 * E % 2 ^ 32 = 2 * (3 * E % 2 ^ 31) := by
    rw [show 6 * E = 2 * (3 * E) by ring, show (2 : Nat) ^ 32 = 2 * 2 ^ 31 by norm_num, Nat.mul_mod_mul_left]
  rw [e]
  constructor
  · intro h0
    have hd : 2 ^ 31 ∣ 3 * E := Nat.dvd_of_mod_eq_zero ((Nat.mul_eq_zero.mp h0).resolve_left (by decide))
    obtain ⟨m, rfl⟩ := Nat.Coprime.dvd_of_dvd_mul_left (by norm_num) hd
    have hm : m < 2 := by
      by_contra hm
      have hle := Nat.mul_le_mul_left (2 ^ 31) (Nat.not_lt.mp hm)
      rw [show (2 : Nat) ^ 31 * 2 = 2 ^ 32 by norm_num] at hle
      exact absurd h (Nat.not_lt.mpr hle)
    rcases m with _ | _ | m
    · exact .inl (Nat.mul_zero _)
    · exact .inr (Nat.mul_one _)
    · omega
  · rintro (rfl | rfl) <;> rfl

theorem sgn3_eq_sign (x : Int) : sgn3 x = Int.sign x := by
  unfold sgn3
  split
  · exact (Int.sign_eq_one_of_pos ‹_›).symm
  · split
    · simp_all
    · exact (Int.sign_eq_neg_one_of_neg (by omega)).symm

theorem swTab_ne_zero (k : Fin 6) : swTab k ≠ 0 := by revert k; decide

theorem swTab_not_shorted (k : Fin 6) : ¬ shorted (swTab k) := by
  rintro ⟨p, hp, h1, h2⟩
  revert k p; decide

/-! ### The selecting conditions, as R81 writes them -/

theorem State.active_iff (s : State) : s.active = true ↔ s.cfg.minSpeed ≤ s.setpoint.toNat := decide_eq_true_iff

theorem State.active_eq_false_iff (s : State) : s.active = false ↔ s.setpoint.toNat < s.cfg.minSpeed :=
  decide_eq_false_iff_not.trans Nat.not_le

theorem State.trigger_iff (s : State) : s.trigger = true ↔ s.period.toNat / 6 ≤ (s.timeNow - s.tLast).toNat := decide_eq_true_iff

theorem State.trigger_eq_false_iff (s : State) : s.trigger = false ↔ (s.timeNow - s.tLast).toNat < s.period.toNat / 6 :=
  decide_eq_false_iff_not.trans Nat.not_le

theorem State.settled_iff (s : State) : s.settled = true ↔ s.cfg.settleTime ≤ (s.timeNow - s.tLast).toNat := decide_eq_true_iff

theorem State.settled_eq_false_iff (s : State) : s.settled = false ↔ (s.timeNow - s.tLast).toNat < s.cfg.settleTime :=
  decide_eq_false_iff_not.trans Nat.not_le

theorem State.expired_iff (s : State) :
    s.expired = true ↔ s.period.toNat / 6 * s.setpoint.toNat / 1000 < (s.tNow - s.tLast).toNat := decide_eq_true_iff

theorem State.expired_eq_false_iff (s : State) :
    s.expired = false ↔ (s.tNow - s.tLast).toNat ≤ s.period.toNat / 6 * s.setpoint.toNat / 1000 :=
  decide_eq_false_iff_not.trans Nat.not_lt

theorem crossing_iff (c : Config) (v prev : Nat) :
    crossing c v prev = true ↔ Int.sign ((v : Int) - c.vmid) ≠ Int.sign ((prev : Int) - c.vmid) := by
  rw [crossing, sampleSign, sampleSign, sgn3_eq_sign, sgn3_eq_sign, decide_eq_true_iff]

theorem crossing_eq_false_iff (c : Config) (v prev : Nat) :
    crossing c v prev = false ↔ Int.sign ((v : Int) - c.vmid) = Int.sign ((prev : Int) - c.vmid) := by
  rw [← Bool.not_eq_true, crossing_iff, not_not]

/-! ### The transcription's own functions against the model's -/

theorem Spec.swtab_eq (k : Fin 6) : Spec.swtab k.val = swTab k := by revert k; decide

theorem Spec.float_eq (k : Fin 6) : Spec.float k.val = (floatTab k).val := by revert k; decide

theorem Spec.subW_eq (a b : Time) : Spec.subW a b = (a - b).toNat := by
  rw [Spec.subW, BitVec.toNat_sub, Nat.add_comm]

theorem Spec.sgnDiff_eq (a b : Nat) : Spec.sgnDiff a b = sgn3 ((a : Int) - b) := by
  unfold Spec.sgnDiff sgn3
  split <;> split <;> first | rfl | omega

theorem Spec.sample_eq (s : State) (k : Fin 6) : Spec.sample s.cfg s.input (Spec.float k.val) = s.sample k := by
  rw [Spec.float_eq, State.sample, State.sense, Spec.sample]
  generalize floatTab k = ch
  fin_cases ch <;> rfl

theorem Spec.sensedPeriod_eq (s : State) (k : Fin 6) :
    Spec.sensedPeriod s.cfg (s.sample k) s.prev (s.timeNow - s.tLast).toNat s.period =
      if s.cross k then s.estimate else s.period := by
  rw [Spec.sensedPeriod, Spec.sgnDiff_eq, Spec.sgnDiff_eq, State.cross, crossing, sampleSign, sampleSign]
  by_cases h : sgn3 ((s.sample k : Int) - s.cfg.vmid) = sgn3 ((s.prev : Int) - s.cfg.vmid)
  · rw [if_neg (not_not.mpr h), if_neg (by simpa using h)]
  · rw [if_pos h, if_pos (by simpa using h)]
    rfl

theorem Spec.gatedOut_eq (s : State) : Spec.gatedOut s = if s.expired then 0 else s.out := by
  rw [Spec.gatedOut, Spec.subW_eq, State.expired]
  by_cases h : s.onTime < s.gateElapsed.toNat
  · rw [if_pos (decide_eq_true h)]
    exact if_pos h
  · rw [if_neg (mt of_decide_eq_true h)]
    exact if_neg h

theorem Spec.polledSetpoint_eq (s : State) :
    Spec.polledSetpoint s.cfg s.item s.setpoint =
      if s.matching then setpointValue s.item.d0 s.item.d1 else s.setpoint := by
  unfold Spec.polledSetpoint State.matching
  congr 1
  apply BitVec.eq_of_toNat_eq
  have h0 := s.item.d0.isLt
  have h1 := s.item.d1.isLt
  rw [setpointValue_toNat, BitVec.toNat_ofNat]
  omega

/-! ### SENSE -/

theorem State.sensed_of_lt {s : State} {k : Fin 6} (h : s.step.toNat = k.val) :
    s.sensed = .next ((s.setPrev (s.sample k)).setPhase .gate) := by
  simp [State.sensed, decodeStep_eq_ok h]

theorem State.sensed_of_ge {s : State} (h : 6 ≤ s.step.toNat) : s.sensed = .fault .stepRange := by
  simp [State.sensed, decodeStep_of_ge h]

theorem execSenseCross_of_lt {s : State} {k : Fin 6} (h : s.step.toNat = k.val) :
    execSenseCross s = .next (((s.setPrev (s.sample k)).setPhase .gate).setPeriod s.estimate) := by
  simp [execSenseCross, State.sensed_of_lt h]

theorem execSenseNocross_of_lt {s : State} {k : Fin 6} (h : s.step.toNat = k.val) :
    execSenseNocross s = .next ((s.setPrev (s.sample k)).setPhase .gate) := State.sensed_of_lt h

/-! ### Fetch -/

theorem State.fetch_of_ge {s : State} (h : 6 ≤ s.step.toNat) : s.fetch = .error .stepRange := by
  simp [State.fetch, decodeStep_of_ge h]

theorem State.fetch_of_phase_ge {s : State} (h : s.step.toNat < 6) (hp : 5 ≤ s.phase.toNat) : s.fetch = .error .phaseRange := by
  simp [State.fetch, decodeStep_of_lt h, decodeClock_of_ge _ (s.clockWord _) hp]

section
variable {s : State} {k : Fin 6} (h : s.step.toNat = k.val)
include h

theorem State.fetch_of_step :
    s.fetch = match decodeClock s.cfg (s.clockWord k) with
      | .error _ => .error .phaseRange
      | .ok i => .ok i := by
  cases hd : decodeClock s.cfg (s.clockWord k) <;> simp [State.fetch, decodeStep_eq_ok h, hd]

/-- The operation of a POLL clock. -/
theorem State.fetch_poll (hp : s.phase = Phase.poll.code) :
    s.fetch = .ok (
      if s.item.valid then
        if s.item.err then .pollReadError s.item.id s.item.d0 s.item.d1
        else if s.item.id = s.cfg.frameId then .pollSetpoint s.item.d0 s.item.d1
        else .pollOtherId s.item.id s.item.d0 s.item.d1
      else .pollNoFrame s.item.err s.item.id s.item.d0 s.item.d1) := by
  have hid := Nat.mod_eq_of_lt s.item_id_lt
  rw [State.fetch_of_step h, decodeClock_of_phase s.cfg (s.clockWord k) (p := .poll) hp]
  simp only [State.clockWord, State.frame, decodeFrame_packFrame, hid]

/-- The operation of an EVAL clock. -/
theorem State.fetch_eval (hp : s.phase = Phase.eval.code) :
    s.fetch = .ok (if s.active then (if s.trigger then .evalAdvance else .evalHold) else .evalIdle) := by
  rw [State.fetch_of_step h, decodeClock_of_phase s.cfg (s.clockWord k) (p := .eval) hp]
  rfl

/-- The operation of a SETTLE clock. -/
theorem State.fetch_settle (hp : s.phase = Phase.settle.code) : s.fetch = .ok (if s.settled then .settleDone else .settleWait) := by
  rw [State.fetch_of_step h, decodeClock_of_phase s.cfg (s.clockWord k) (p := .settle) hp]
  rfl

/-- The operation of a SENSE clock. -/
theorem State.fetch_sense (hp : s.phase = Phase.sense.code) : s.fetch = .ok (if s.cross k then .senseCross else .senseNocross) := by
  rw [State.fetch_of_step h, decodeClock_of_phase s.cfg (s.clockWord k) (p := .sense) hp]
  rfl

/-- The operation of a GATE clock. -/
theorem State.fetch_gate (hp : s.phase = Phase.gate.code) : s.fetch = .ok (if s.expired then .gateOff else .gateKeep) := by
  rw [State.fetch_of_step h, decodeClock_of_phase s.cfg (s.clockWord k) (p := .gate) hp]
  rfl

end

/-! ### One clock -/

theorem step_of_rst {s : State} (h : s.rst = true) : step s = .next s.resetRegs.endClock := by
  simp [step, h, State.resetClock]

theorem step_of_fetch {s : State} {i : Instr} (hr : s.rst = false) (h : s.fetch = .ok i) : step s = finish (exec i s) := by
  simp [step, hr, h]

theorem step_of_fault {s : State} {f : Fault} (hr : s.rst = false) (h : s.fetch = .error f) : step s = .fault f := by
  simp [step, hr, h]

section
variable {s : State} (hr : s.rst = false) {k : Fin 6} (hk : s.step.toNat = k.val)
include hr hk

/-- One POLL clock. -/
theorem step_poll (hp : s.phase = Phase.poll.code) :
    step s = .next ((if s.matching then s.setSetpoint (setpointValue s.item.d0 s.item.d1) else s).polled.endClock) := by
  rw [step_of_fetch hr (State.fetch_poll hk hp)]
  by_cases hv : s.item.valid = true <;> by_cases he : s.item.err = true <;> by_cases hi : s.item.id = s.cfg.frameId <;>
    simp [hv, he, hi, State.matching, exec, finish, execPollSetpoint, execPollOtherId, execPollReadError, execPollNoFrame]

/-- One EVAL clock. -/
theorem step_eval (hp : s.phase = Phase.eval.code) :
    step s = .next (State.endClock (
      if s.active then
        if s.trigger then
          (((s.snapshot.setStep (nextIndex s.step)).setTLast s.timeNow).drive (swTab (nextIndex s.step))).setPhase .settle
        else s.snapshot.setPhase .gate
      else (s.snapshot.drive 0x00).setPhase .poll)) := by
  rw [step_of_fetch hr (State.fetch_eval hk hp)]
  by_cases ha : s.active = true <;> by_cases ht : s.trigger = true <;>
    simp [ha, ht, exec, finish, execEvalAdvance, execEvalHold, execEvalIdle]

/-- One SETTLE clock. -/
theorem step_settle (hp : s.phase = Phase.settle.code) :
    step s = .next (s.setPhase (if s.settled then .sense else .settle)).endClock := by
  rw [step_of_fetch hr (State.fetch_settle hk hp)]
  by_cases h : s.settled = true <;> simp [h, exec, finish, execSettleDone, execSettleWait]

/-- One SENSE clock. -/
theorem step_sense (hp : s.phase = Phase.sense.code) :
    step s = .next (State.endClock (((s.setPrev (s.sample k)).setPhase .gate).setPeriod (if s.cross k then s.estimate else s.period))) := by
  rw [step_of_fetch hr (State.fetch_sense hk hp)]
  by_cases h : s.cross k = true <;> simp [h, exec, finish, execSenseCross_of_lt hk, execSenseNocross_of_lt hk]
  rfl

/-- One GATE clock. -/
theorem step_gate (hp : s.phase = Phase.gate.code) :
    step s = .next ((s.drive (if s.expired then 0x00 else s.out)).setPhase .poll).endClock := by
  rw [step_of_fetch hr (State.fetch_gate hk hp)]
  by_cases h : s.expired = true <;> simp [h, exec, finish, execGateOff, execGateKeep]
  rfl

end

/-- All that one clock can do, when it ends in a next state. -/
theorem step_cases {s t : State} (h : step s = .next t) :
    (s.rst = true ∧ t = s.resetRegs.endClock) ∨
    (s.rst = false ∧ ∃ k : Fin 6, s.step.toNat = k.val ∧
      ((s.phase = Phase.poll.code ∧
          t = ((if s.matching then s.setSetpoint (setpointValue s.item.d0 s.item.d1) else s).polled.endClock)) ∨
       (s.phase = Phase.eval.code ∧ s.active = false ∧ t = ((s.snapshot.drive 0x00).setPhase .poll).endClock) ∨
       (s.phase = Phase.eval.code ∧ s.active = true ∧ s.trigger = true ∧
          t = ((((s.snapshot.setStep (nextIndex s.step)).setTLast s.timeNow).drive
            (swTab (nextIndex s.step))).setPhase .settle).endClock) ∨
       (s.phase = Phase.eval.code ∧ s.active = true ∧ s.trigger = false ∧ t = (s.snapshot.setPhase .gate).endClock) ∨
       (s.phase = Phase.settle.code ∧ t = (s.setPhase (if s.settled then .sense else .settle)).endClock) ∨
       (s.phase = Phase.sense.code ∧
          t = (((s.setPrev (s.sample k)).setPhase .gate).setPeriod (if s.cross k then s.estimate else s.period)).endClock) ∨
       (s.phase = Phase.gate.code ∧ t = ((s.drive (if s.expired then 0x00 else s.out)).setPhase .poll).endClock))) := by
  cases hr : s.rst
  · right
    refine ⟨rfl, ?_⟩
    rcases Nat.lt_or_ge s.step.toNat 6 with hk | hk
    · refine ⟨⟨s.step.toNat, hk⟩, rfl, ?_⟩
      have hk' : s.step.toNat = (⟨s.step.toNat, hk⟩ : Fin 6).val := rfl
      rcases phase_cases s.phase with ⟨p, hp⟩ | hp
      · cases p
        · rw [step_poll hr hk' hp] at h
          exact .inl ⟨hp, (Host.Outcome.next.inj h).symm⟩
        · rw [step_eval hr hk' hp] at h
          have h := (Host.Outcome.next.inj h).symm
          cases ha : s.active <;> cases ht : s.trigger <;> simp [ha, ht] at h <;> simp [hp, h]
        · rw [step_settle hr hk' hp] at h
          exact .inr <| .inr <| .inr <| .inr <| .inl ⟨hp, (Host.Outcome.next.inj h).symm⟩
        · rw [step_sense hr hk' hp] at h
          exact .inr <| .inr <| .inr <| .inr <| .inr <| .inl ⟨hp, (Host.Outcome.next.inj h).symm⟩
        · rw [step_gate hr hk' hp] at h
          exact .inr <| .inr <| .inr <| .inr <| .inr <| .inr ⟨hp, (Host.Outcome.next.inj h).symm⟩
      · rw [step_of_fault hr (State.fetch_of_phase_ge hk hp)] at h
        cases h
    · rw [step_of_fault hr (State.fetch_of_ge hk)] at h
      cases h
  · exact .inl ⟨rfl, (Host.Outcome.next.inj ((step_of_rst hr).symm.trans h)).symm⟩

/-! ### Several clocks -/

theorem runClocks_succ_of_next {n : Nat} {s t : State} (h : step s = .next t) : runClocks (n + 1) s = runClocks n t := by
  simp [runClocks, h]

theorem runClocks_add {m n : Nat} {s t : State} (h : runClocks m s = .next t) : runClocks (m + n) s = runClocks n t := by
  induction m generalizing s with
  | zero => cases h; rw [Nat.zero_add]
  | succ m ih =>
    rw [Nat.add_right_comm]
    simp only [runClocks] at h ⊢
    split at h
    · exact ih h
    · cases h
    · cases h

/-- The host's own run is the same. -/
theorem core_run_eq (n : Nat) (s : State) : Sys2Proof.core.run n s = runClocks n s := by
  induction n generalizing s with
  | zero => rfl
  | succ n ih =>
    cases hs : step s with
    | next t =>
      have hc : Sys2Proof.core.step s = .next t := hs
      simp only [Host.Core.run, runClocks, hs, hc]
      exact ih t
    | fault f =>
      have hc : Sys2Proof.core.step s = .fault f := hs
      simp only [Host.Core.run, runClocks, hs, hc]
      rfl
    | refused r =>
      have hc : Sys2Proof.core.step s = .refused r := hs
      simp only [Host.Core.run, runClocks, hs, hc]
      rfl

/-! ### The parameters -/

theorem Config.fold_valid (r : Config) : r.fold.Valid := by
  have hs := Nat.mod_lt r.minSpeed (show 0 < 1000 by decide)
  have ht := Nat.mod_lt r.settleTime (show 0 < 715827882 by decide)
  refine ⟨⟨by simp [Config.fold], by simp [Config.fold]; omega⟩, ⟨by simp [Config.fold], by simp [Config.fold]; omega⟩,
    by simp [Config.fold], Nat.mod_lt _ (Nat.two_pow_pos _), by simp [Config.fold], Nat.mod_lt _ (Nat.two_pow_pos _), ?_⟩
  simp only [Config.fold]
  split <;> simp_all

/-- No legal choice of the parameters is shut out (00_scope.md R12). -/
theorem Config.fold_surjective {c : Config} (h : c.Valid) : ∃ r : Config, r.fold = c := by
  obtain ⟨⟨h1, h2⟩, ⟨h3, h4⟩, h5, h6, h7, h8, h9⟩ := h
  refine ⟨{ c with minSpeed := c.minSpeed - 1, settleTime := c.settleTime - 1, idW := c.idW - 1, adcW := c.adcW - 1 }, ?_⟩
  have e1 : (c.minSpeed - 1) % 1000 + 1 = c.minSpeed := by omega
  have e2 : (c.settleTime - 1) % 715827882 + 1 = c.settleTime := by omega
  have e3 : c.idW - 1 + 1 = c.idW := by omega
  have e4 : c.adcW - 1 + 1 = c.adcW := by omega
  simp only [Config.fold, e1, e2, e3, e4, Nat.mod_eq_of_lt h6, Nat.mod_eq_of_lt h8, if_neg h9]

theorem reset_cfg_valid : State.reset.cfg.Valid := Config.fold_valid _

end Sys2Proof.Machine
end

