-- ==== Sys2Proof/Laws/Clocks.lean ====
section
/-! SUPPORT. One clock whose inputs are listed, with the next state written out, for proofs that chain clocks; and the three shapes of the
spec's `Iter`. -/

namespace Sys2Proof.Machine

section
variable {s : State} {i : ClockInput} {is : List ClockInput} (hi : s.clockIn = i :: is)
include hi

theorem State.rst_of_cons : s.rst = i.rst := by rw [State.rst, State.input_of_cons hi]

theorem State.timeNow_of_cons : s.timeNow = i.timeNow := by rw [State.timeNow, State.input_of_cons hi]

theorem State.sample_of_cons (k : Fin 6) : s.sample k = Spec.sample s.cfg i (Spec.float k.val) := by
  rw [← Spec.sample_eq, State.input_of_cons hi]

variable (hr : i.rst = false) (hk : s.step.toNat < 6)
include hr hk

theorem step_poll_listed (hp : s.phase = Phase.poll.code) :
    step s = .next { s with
      setpoint := Spec.polledSetpoint s.cfg s.item s.setpoint, phase := Phase.eval.code
      rxIn := s.rxIn.tail, clockIn := is, clock := s.clock + 1 } := by
  rw [step_poll ((State.rst_of_cons hi).trans hr) (k := ⟨_, hk⟩) rfl hp, Spec.polledSetpoint_eq]
  split <;> simp [State.polled, State.setPhase, State.endClock, State.nextItem, State.setSetpoint, hi]

theorem step_idle_listed (hp : s.phase = Phase.eval.code) (ha : s.setpoint.toNat < s.cfg.minSpeed) :
    step s = .next { s with
      tNow := i.timeNow, out := 0x00, phase := Phase.poll.code, clockIn := is, clock := s.clock + 1 } := by
  rw [step_eval ((State.rst_of_cons hi).trans hr) (k := ⟨_, hk⟩) rfl hp, s.active_eq_false_iff.mpr ha, ← State.timeNow_of_cons hi]
  simp [State.snapshot, State.setPhase, State.endClock, State.setTNow, State.drive, hi]

theorem step_hold_listed (hp : s.phase = Phase.eval.code) (ha : s.cfg.minSpeed ≤ s.setpoint.toNat)
    (ht : (i.timeNow - s.tLast).toNat < s.period.toNat / 6) :
    step s = .next { s with tNow := i.timeNow, phase := Phase.gate.code, clockIn := is, clock := s.clock + 1 } := by
  have ht' : s.trigger = false := by rw [s.trigger_eq_false_iff, State.timeNow_of_cons hi]; exact ht
  rw [step_eval ((State.rst_of_cons hi).trans hr) (k := ⟨_, hk⟩) rfl hp, s.active_iff.mpr ha, ht', ← State.timeNow_of_cons hi]
  simp [State.snapshot, State.setPhase, State.endClock, State.setTNow, hi]

theorem step_advance_listed (hp : s.phase = Phase.eval.code) (ha : s.cfg.minSpeed ≤ s.setpoint.toNat)
    (ht : s.period.toNat / 6 ≤ (i.timeNow - s.tLast).toNat) :
    step s = .next { s with
      tNow := i.timeNow, step := BitVec.ofNat 3 ((s.step.toNat + 1) % 6), tLast := i.timeNow
      out := Spec.swtab ((s.step.toNat + 1) % 6), phase := Phase.settle.code, clockIn := is, clock := s.clock + 1 } := by
  have ht' : s.trigger = true := by rw [s.trigger_iff, State.timeNow_of_cons hi]; exact ht
  rw [step_eval ((State.rst_of_cons hi).trans hr) (k := ⟨_, hk⟩) rfl hp, s.active_iff.mpr ha, ht', ← State.timeNow_of_cons hi,
    ← nextIndex_val, Spec.swtab_eq]
  simp [State.snapshot, State.setPhase, State.endClock, State.setTNow, State.setTLast, State.setStep, State.drive, hi]

theorem step_wait_listed (hp : s.phase = Phase.settle.code) (ht : (i.timeNow - s.tLast).toNat < s.cfg.settleTime) :
    step s = .next { s with clockIn := is, clock := s.clock + 1 } := by
  have ht' : s.settled = false := by rw [s.settled_eq_false_iff, State.timeNow_of_cons hi]; exact ht
  rw [step_settle ((State.rst_of_cons hi).trans hr) (k := ⟨_, hk⟩) rfl hp, ht']
  simp [State.setPhase, State.endClock, hi, ← hp]

theorem step_done_listed (hp : s.phase = Phase.settle.code) (ht : s.cfg.settleTime ≤ (i.timeNow - s.tLast).toNat) :
    step s = .next { s with phase := Phase.sense.code, clockIn := is, clock := s.clock + 1 } := by
  have ht' : s.settled = true := by rw [s.settled_iff, State.timeNow_of_cons hi]; exact ht
  rw [step_settle ((State.rst_of_cons hi).trans hr) (k := ⟨_, hk⟩) rfl hp, ht']
  simp [State.setPhase, State.endClock, hi]

theorem step_sense_listed (hp : s.phase = Phase.sense.code) :
    step s = .next { s with
      period := Spec.sensedPeriod s.cfg (Spec.sample s.cfg i (Spec.float s.step.toNat)) s.prev (i.timeNow - s.tLast).toNat s.period
      prev := Spec.sample s.cfg i (Spec.float s.step.toNat)
      phase := Phase.gate.code, clockIn := is, clock := s.clock + 1 } := by
  have e := Spec.sensedPeriod_eq s ⟨_, hk⟩
  rw [State.sample_of_cons hi, State.timeNow_of_cons hi] at e
  rw [step_sense ((State.rst_of_cons hi).trans hr) (k := ⟨_, hk⟩) rfl hp, e, State.sample_of_cons hi]
  simp [State.setPhase, State.endClock, State.setPrev, State.setPeriod, hi]

theorem step_gate_listed (hp : s.phase = Phase.gate.code) :
    step s = .next { s with out := Spec.gatedOut s, phase := Phase.poll.code, clockIn := is, clock := s.clock + 1 } := by
  rw [step_gate ((State.rst_of_cons hi).trans hr) (k := ⟨_, hk⟩) rfl hp, Spec.gatedOut_eq]
  simp [State.setPhase, State.endClock, State.drive, hi]

end

/-! ### The shapes of `Iter` -/

section
variable {s : State} {it : RxItem} {e z : ClockInput}

theorem Spec.iter_idle (h : (polledSetpoint s.cfg it s.setpoint).toNat < s.cfg.minSpeed) :
    iter s it e z = { iterStart s it e.timeNow with out := 0x00 } := if_pos h

theorem Spec.iter_hold (h : s.cfg.minSpeed ≤ (polledSetpoint s.cfg it s.setpoint).toNat)
    (ht : subW e.timeNow s.tLast < s.period.toNat / 6) :
    iter s it e z = { iterStart s it e.timeNow with out := gatedOut (iterStart s it e.timeNow) } := by
  have ht' : ¬ subW e.timeNow (iterStart s it e.timeNow).tLast ≥ (iterStart s it e.timeNow).period.toNat / 6 := Nat.not_le.mpr ht
  refine (if_neg (Nat.not_lt.mpr h)).trans ?_
  rw [if_neg ht']

theorem Spec.iter_advance (h : s.cfg.minSpeed ≤ (polledSetpoint s.cfg it s.setpoint).toNat)
    (ht : s.period.toNat / 6 ≤ subW e.timeNow s.tLast) :
    iter s it e z = { iterAdvance (iterStart s it e.timeNow) e.timeNow z with
      out := gatedOut (iterAdvance (iterStart s it e.timeNow) e.timeNow z) } := by
  have ht' : subW e.timeNow (iterStart s it e.timeNow).tLast ≥ (iterStart s it e.timeNow).period.toNat / 6 := ht
  refine (if_neg (Nat.not_lt.mpr h)).trans ?_
  rw [if_pos ht']

end

end Sys2Proof.Machine
end

