-- ==== Sys2Proof/Laws/PerInstr.lean ====
section
/-! SUPPORT. A statement for all operations as syntax: the word of each fits the format its row of the opcode table gives it. -/

namespace Sys2Proof

/-- A clock word holds a PHASE code in use and a FRAME word of `ID_W + 18` bits (30_encoding.md R71, R74); a switch word is none of the
shoot-through words (R77). -/
def Code.Fits (c : Config) : Code → Prop
  | .clock w => w.phase.toNat ≤ 4 ∧ w.frame < 2 ^ (c.idW + 18)
  | .sw w => shootThrough w = false

theorem fits_plain (c : Config) (p : Phase) {w : ClockWord} (hp : w.phase = p.code) (hf : w.frame = 0) : (Code.clock w).Fits c := by
  refine ⟨?_, hf ▸ Nat.two_pow_pos _⟩
  rw [hp]
  cases p <;> decide

theorem fits_frame (c : Config) (v e : Bool) (id : Nat) (d0 d1 : Byte) :
    (Code.clock (ClockWord.ofFrame (packFrame c v e id d0 d1))).Fits c :=
  ⟨by simp [ClockWord.ofFrame, ClockWord.plain, Phase.code], packFrame_lt c v e id d0 d1⟩

namespace Laws.EncodeFits

/-- The family's statement. -/
def Statement (i : Instr) : Prop := ∀ c : Config, (encode c i).Fits c

theorem pollSetpoint (d0 d1 : Byte) : Statement (.pollSetpoint d0 d1) := fun c => fits_frame c ..
theorem pollOtherId (id : Nat) (d0 d1 : Byte) : Statement (.pollOtherId id d0 d1) := fun c => fits_frame c ..
theorem pollReadError (id : Nat) (d0 d1 : Byte) : Statement (.pollReadError id d0 d1) := fun c => fits_frame c ..
theorem pollNoFrame (err : Bool) (id : Nat) (d0 d1 : Byte) : Statement (.pollNoFrame err id d0 d1) := fun c => fits_frame c ..
theorem evalIdle : Statement .evalIdle := fun c => fits_plain c .eval rfl rfl
theorem evalAdvance : Statement .evalAdvance := fun c => fits_plain c .eval rfl rfl
theorem evalHold : Statement .evalHold := fun c => fits_plain c .eval rfl rfl
theorem settleWait : Statement .settleWait := fun c => fits_plain c .settle rfl rfl
theorem settleDone : Statement .settleDone := fun c => fits_plain c .settle rfl rfl
theorem senseCross : Statement .senseCross := fun c => fits_plain c .sense rfl rfl
theorem senseNocross : Statement .senseNocross := fun c => fits_plain c .sense rfl rfl
theorem gateOff : Statement .gateOff := fun c => fits_plain c .gate rfl rfl
theorem gateKeep : Statement .gateKeep := fun c => fits_plain c .gate rfl rfl
theorem driveStep0 : Statement .driveStep0 := fun _ => by show shootThrough _ = false; decide
theorem driveStep1 : Statement .driveStep1 := fun _ => by show shootThrough _ = false; decide
theorem driveStep2 : Statement .driveStep2 := fun _ => by show shootThrough _ = false; decide
theorem driveStep3 : Statement .driveStep3 := fun _ => by show shootThrough _ = false; decide
theorem driveStep4 : Statement .driveStep4 := fun _ => by show shootThrough _ = false; decide
theorem driveStep5 : Statement .driveStep5 := fun _ => by show shootThrough _ = false; decide
theorem driveAllOff : Statement .driveAllOff := fun _ => by show shootThrough _ = false; decide

end Laws.EncodeFits

end Sys2Proof
end

