-- ==== Sys2Proof/Tests/Slice0.lean ====
section
/-! SUPPORT. Tests whose expected results are the spec's own vectors (95_test_vectors.md, under its test instantiation of the OPEN
parameters) or its encodings, and for each statement with hypotheses a witness that meets them. -/

namespace Sys2Proof.Tests

open Sys2Proof.Machine

/-! ### Helpers -/

/-- `S0` of 95_test_vectors.md. -/
def base : State where
  step := 0
  period := 6000
  tLast := 0
  setpoint := 0
  prev := 0
  out := 0x00
  phase := 0b000
  tNow := 0
  cfg := tableConfig
  clockIn := []
  rxIn := []
  clock := 0

/-- A clock without reset at time `t`, with the sense inputs given. -/
def tick (t : Time) (a b c : Nat := 0) : ClockInput := { rst := false, timeNow := t, vA := a, vB := b, vC := c }

/-- A clock with reset. -/
def reset (t : Time) : ClockInput := { tick t with rst := true }

/-- A frame presented at the receive port. -/
def frame (id : Nat) (d0 d1 : Byte) : RxItem := { valid := true, err := false, id := id, d0 := d0, d1 := d1 }

/-- No item presented. -/
def none : RxItem := { frame 0 0 0 with valid := false }

/-- The next state of an outcome. -/
def stateOf (o : Host.Outcome State Fault Refusal) : Option State :=
  match o with
  | .next s => some s
  | .fault _ => Option.none
  | .refused _ => Option.none

/-- The fault of an outcome. -/
def faultOf (o : Host.Outcome State Fault Refusal) : Option Fault :=
  match o with
  | .next _ => Option.none
  | .fault f => some f
  | .refused _ => Option.none

/-- The registers of 95_test_vectors.md, `[STEP, PERIOD, T_LAST, SETPOINT, PREV, OUT, T_NOW]`, and `PHASE`, after one clock. -/
def after (s : State) : Option (List Nat) :=
  (stateOf (step s)).map fun t =>
    [t.step.toNat, t.period.toNat, t.tLast.toNat, t.setpoint.toNat, t.prev, t.out.toNat, t.tNow.toNat, t.phase.toNat]

/-- A POLL clock that presents `it`, `SETPOINT = 500`. -/
def polling (it : RxItem) : State := { base with setpoint := 500, clockIn := [tick 7], rxIn := [it] }

/-- An EVAL clock. -/
def evaluating (sp : SetpointWord) (k : StepCode) (per last t : Time) : State :=
  { base with phase := 0b001, setpoint := sp, step := k, period := per, tLast := last, clockIn := [tick t] }

/-- A SETTLE clock after an advance to step 1 at time 1000. -/
def settling (t : Time) : State := { base with phase := 0b010, step := 1, tLast := 1000, tNow := 1000, out := 0x21, clockIn := [tick t] }

/-- A SENSE clock, `T_LAST = 1000`. -/
def sensing (k : StepCode) (prev : Nat) (t : Time) (a b c : Nat) : State :=
  { base with phase := 0b011, step := k, tLast := 1000, tNow := 1000, prev := prev, clockIn := [tick t a b c] }

/-- A GATE clock, `T_LAST = 0`, `OUT = 0x24`. -/
def gating (per : Time) (sp : SetpointWord) (elapsed : Time) : State :=
  { base with phase := 0b100, step := 2, period := per, setpoint := sp, tNow := elapsed, out := 0x24, clockIn := [tick 0] }

/-! ### WellFormed refuses -/

theorem test_wf_other_id_too_wide : Instr.wf tableConfig (.pollOtherId 0x800 0 0) = false := by decide
theorem test_wf_other_id_is_frame_id : Instr.wf tableConfig (.pollOtherId 0x100 0 0) = false := by decide
theorem test_wf_read_error_too_wide : Instr.wf tableConfig (.pollReadError 0x800 0 0) = false := by decide
theorem test_wf_no_frame_too_wide : Instr.wf tableConfig (.pollNoFrame false 0x800 0 0) = false := by decide
theorem test_wf_other_id : Instr.wf tableConfig (.pollOtherId 0x7FF 0 0) = true := by decide

/-! ### Words written out from the spec's encodings (30_encoding.md R71 to R74, R140; vectors V-P1, V-P6, V-P8, V-P10) -/

theorem test_decode_pollSetpoint : decodeFrame tableConfig 0b1_0_00100000000_00000001_11110100 = .pollSetpoint 0x01 0xF4 := by decide
theorem test_decode_pollOtherId : decodeFrame tableConfig 0b1_0_10100000000_00000011_11101000 = .pollOtherId 0x500 0x03 0xE8 := by decide
theorem test_decode_pollReadError : decodeFrame tableConfig 0b1_1_00100000000_00000011_11101000 = .pollReadError 0x100 0x03 0xE8 := by decide
theorem test_decode_pollNoFrame : decodeFrame tableConfig 0b0_1_00100000000_00000011_11101000 = .pollNoFrame true 0x100 0x03 0xE8 := by decide
theorem test_decode_byte_order : decodeFrame tableConfig 0x1100F401 = .pollSetpoint 0xF4 0x01 := by decide

/-- A clock word of 30_encoding.md R81, its PHASE written out. -/
def word (p : PhaseCode) (active trigger settled cross expired : Bool) : Code :=
  .clock { phase := p, frame := 0, active := active, trigger := trigger, settled := settled, cross := cross, expired := expired }

theorem test_decode_evalIdle : decode tableConfig (word 0b001 false true false false false) = .ok .evalIdle := by decide
theorem test_decode_evalAdvance : decode tableConfig (word 0b001 true true false false false) = .ok .evalAdvance := by decide
theorem test_decode_evalHold : decode tableConfig (word 0b001 true false false false false) = .ok .evalHold := by decide
theorem test_decode_settleWait : decode tableConfig (word 0b010 true true false true true) = .ok .settleWait := by decide
theorem test_decode_settleDone : decode tableConfig (word 0b010 true true true true true) = .ok .settleDone := by decide
theorem test_decode_senseCross : decode tableConfig (word 0b011 true true true true true) = .ok .senseCross := by decide
theorem test_decode_senseNocross : decode tableConfig (word 0b011 true true true false true) = .ok .senseNocross := by decide
theorem test_decode_gateOff : decode tableConfig (word 0b100 true true true true true) = .ok .gateOff := by decide
theorem test_decode_gateKeep : decode tableConfig (word 0b100 true true true true false) = .ok .gateKeep := by decide
theorem test_decode_driveStep0 : decode tableConfig (.sw 0b001001) = .ok .driveStep0 := by decide
theorem test_decode_driveStep1 : decode tableConfig (.sw 0b100001) = .ok .driveStep1 := by decide
theorem test_decode_driveStep2 : decode tableConfig (.sw 0b100100) = .ok .driveStep2 := by decide
theorem test_decode_driveStep3 : decode tableConfig (.sw 0b000110) = .ok .driveStep3 := by decide
theorem test_decode_driveStep4 : decode tableConfig (.sw 0b010010) = .ok .driveStep4 := by decide
theorem test_decode_driveStep5 : decode tableConfig (.sw 0b011000) = .ok .driveStep5 := by decide
theorem test_decode_driveAllOff : decode tableConfig (.sw 0b000000) = .ok .driveAllOff := by decide
theorem test_decode_reserved_phase : decode tableConfig (word 0b101 true true true true true) = .error .phaseRange := by decide
theorem test_decode_reserved_step : decodeStep 0b110 = .error .stepRange := by decide
theorem test_decode_shoot_through : decodeSw 0b000011 = .error .shootThrough := by decide
theorem test_decode_never_produced : decodeSw 0b000001 = .error .neverProduced := by decide

/-! ### The table's words, and each placed as the next to run -/

theorem test_table_eval : decodeTableWord 8 0x1 = some .evalIdle := by decide
theorem test_table_drive : decodeTableWord 8 0x24 = some .driveStep2 := by decide
theorem test_table_frame : decodeTableWord 32 0x110001F4 = some (.pollSetpoint 0x01 0xF4) := by decide

theorem test_place_frame : (State.reset.withFetchWord 32 0x110001F4).fetch = .ok (.pollSetpoint 0x01 0xF4) := by decide
theorem test_place_eval : (State.reset.withFetchWord 8 0x1).fetch = .ok .evalIdle := by decide
theorem test_place_settle : (State.reset.withFetchWord 8 0x2).fetch = .ok .settleWait := by decide
theorem test_place_sense : (State.reset.withFetchWord 8 0x3).fetch = .ok .senseNocross := by decide
theorem test_place_gate : (State.reset.withFetchWord 8 0x4).fetch = .ok .gateKeep := by decide
theorem test_place_drive0 : (stateOf (step (State.reset.withFetchWord 8 0x09))).map (·.out) = some 0x09 := by decide
theorem test_place_drive5 : (stateOf (step (State.reset.withFetchWord 8 0x18))).map (·.out) = some 0x18 := by decide
theorem test_place_off : (stateOf (step (({ State.reset with out := 0x24 } : State).withFetchWord 8 0x00))).map (·.out) = some 0x00 := by decide

/-! ### POLL (V-P3, V-P5, V-P6, V-P9, V-P10) -/

theorem test_pollSetpoint_no_clamp : after (polling (frame 0x100 0xFF 0xFF)) = some [0, 6000, 0, 65535, 0, 0, 0, 1] := by decide
theorem test_pollSetpoint_byte_order : after (polling (frame 0x100 0xF4 0x01)) = some [0, 6000, 0, 62465, 0, 0, 0, 1] := by decide
theorem test_pollOtherId : after (polling (frame 0x500 0x03 0xE8)) = some [0, 6000, 0, 500, 0, 0, 0, 1] := by decide
theorem test_pollReadError : after (polling { frame 0x100 0x03 0xE8 with err := true }) = some [0, 6000, 0, 500, 0, 0, 0, 1] := by decide
theorem test_pollNoFrame : after (polling { frame 0x100 0x03 0xE8 with valid := false }) = some [0, 6000, 0, 500, 0, 0, 0, 1] := by decide
theorem test_rx_pop : (polling (frame 0x500 0 0)).rxPop = true ∧ (polling none).rxPop = false ∧ (settling 0).rxPop = false := by decide

/-! ### EVAL (V-E2, V-E3, V-E6, V-E8, V-E9) -/

theorem test_evalIdle : after { evaluating 49 3 6000 1000 9000 with out := 0x06 } = some [3, 6000, 1000, 49, 0, 0, 9000, 0] := by decide
theorem test_evalHold_at_min_speed : after (evaluating 50 3 6000 1000 1500) = some [3, 6000, 1000, 50, 0, 0, 1500, 4] := by decide
theorem test_evalHold_over_wrap : after (evaluating 500 1 6000 0xFFFFFF00 0x100) = some [1, 6000, 0xFFFFFF00, 500, 0, 0, 0x100, 4] := by decide
theorem test_evalAdvance_wraps : after (evaluating 500 5 6000 10000 11000) = some [0, 6000, 11000, 500, 0, 0x09, 11000, 2] := by decide
theorem test_evalAdvance_interval_zero : after (evaluating 500 0 5 7000 7000) = some [1, 5, 7000, 500, 0, 0x21, 7000, 2] := by decide

/-! ### SETTLE (V-S2, V-S3) -/

theorem test_settleWait : after (settling 1019) = some [1, 6000, 1000, 0, 0, 0x21, 1000, 2] := by decide
theorem test_settleDone : after (settling 1020) = some [1, 6000, 1000, 0, 0, 0x21, 1000, 3] := by decide

/-! ### SENSE (V-SN1, V-SN3, V-SN2, V-SN4) -/

theorem test_senseCross : after (sensing 1 300 1021 100 700 50) = some [1, 126, 1000, 0, 700, 0, 1000, 4] := by decide
theorem test_senseNocross : after (sensing 1 600 1021 100 700 50) = some [1, 6000, 1000, 0, 700, 0, 1000, 4] := by decide
theorem test_senseNocross_at_midpoint : after (sensing 3 512 1020 0 0 512) = some [3, 6000, 1000, 0, 512, 0, 1000, 4] := by decide

/-- V-SN9: the estimate wraps. -/
theorem test_estimate_wraps : (stateOf (step { sensing 5 0 715827883 1023 0 0 with tLast := 0 })).map (·.period) = some 2 := by decide

/-! ### GATE (V-G1, V-G2, V-G11) -/

theorem test_gateKeep_equal : after (gating 6000 500 500) = some [2, 6000, 0, 500, 0, 0x24, 500, 0] := by decide
theorem test_gateKeep_exact_product : after (gating 0xFFFFFFFF 65535 715827881) = some [2, 0xFFFFFFFF, 0, 65535, 0, 0x24, 715827881, 0] := by decide
theorem test_gateOff : after (gating 6000 500 501) = some [2, 6000, 0, 500, 0, 0, 501, 0] := by decide

/-! ### DRIVE (V-D1, V-D4, V-D7) -/

theorem test_driveStep1 : (stateOf (exec .driveStep1 { base with out := 0x09 })).map (·.sw) = some 0x21 := by decide
theorem test_driveStep4 : (stateOf (exec .driveStep4 { base with out := 0x06 })).map (·.sw) = some 0x12 := by decide
theorem test_driveAllOff : (stateOf (exec .driveAllOff { base with out := 0x24 })).map (·.sw) = some 0x00 := by decide

/-! ### Reset and the model faults (V-R1, V-R3, V-R4) -/

theorem test_reset_clock : after { settling 1019 with clockIn := [reset 1019], setpoint := 900 } = some [0, 6000, 0, 0, 0, 0, 0, 0] := by decide
theorem test_step_fault : faultOf (step { settling 1019 with step := 6 }) = some .stepRange := by decide
theorem test_phase_fault : faultOf (step { settling 1019 with phase := 5 }) = some .phaseRange := by decide
theorem test_reset_overrides_faults : (stateOf (step { settling 0 with step := 7, clockIn := [reset 0] })).map (·.step) = some 0 := by decide

/-! ### Witnesses: for each statement of Obligations.lean with hypotheses, a state and operands that meet them all -/

theorem witness_FrameFieldsLieAtTheirBits :
    let s := polling (frame 0x7FF 0xFF 0xFF)
    (7 < 8 ∧ s.frame.testBit 7 = true ∧ s.frame.testBit 15 = true) ∧ (10 < s.cfg.idW ∧ s.frame.testBit 26 = true) := by decide

theorem witness_DecodeOfEncodeIsTheOperation :
    tableConfig.Valid ∧ Instr.wf tableConfig (.pollOtherId 0x7FF 0xFF 0xFF) = true ∧
    decode tableConfig (encode tableConfig (.pollOtherId 0x7FF 0xFF 0xFF)) = .ok (.pollOtherId 0x7FF 0xFF 0xFF) := by decide

theorem witness_EncodeOfDecodedFrameIsTheWord : 0x1FFFFFFF < 2 ^ (tableConfig.idW + 18) ∧ tableConfig.Valid := by decide

/-- The POLL rows, for `OperationMapSelectsTheRow`, `PollSetpointStoresTheBigEndianValue` and `OtherPollsOnlyMoveOn`. -/
theorem witness_OperationMap_poll :
    (let s := polling (frame 0x100 0 0)
     s.rst = false ∧ s.step.toNat < 6 ∧ s.phase = 0b000 ∧ s.item.valid = true ∧ s.item.err = false ∧ s.item.id = s.cfg.frameId) ∧
    (let s := polling (frame 0x101 0 0)
     s.rst = false ∧ s.step.toNat < 6 ∧ s.phase = 0b000 ∧ s.item.valid = true ∧ s.item.err = false ∧ s.item.id ≠ s.cfg.frameId) ∧
    (let s := polling { frame 0x100 0 0 with err := true }
     s.rst = false ∧ s.step.toNat < 6 ∧ s.phase = 0b000 ∧ s.item.valid = true ∧ s.item.err = true) ∧
    (let s := polling none
     s.rst = false ∧ s.step.toNat < 6 ∧ s.phase = 0b000 ∧ s.item.valid = false) := by decide

/-- The EVAL rows, for `OperationMapSelectsTheRow` and the three EVAL operations: setpoint 49 and 50 against `MIN_SPEED = 50`; elapsed 1000 and 999 against an interval of 1000. -/
theorem witness_OperationMap_eval :
    (let s := evaluating 49 5 6000 0 1000
     s.step.toNat < 6 ∧ s.phase = 0b001 ∧ s.setpoint.toNat < s.cfg.minSpeed ∧ s.fetch = .ok .evalIdle) ∧
    (let s := evaluating 50 5 6000 0 1000
     s.step.toNat < 6 ∧ s.phase = 0b001 ∧ s.cfg.minSpeed ≤ s.setpoint.toNat ∧
     s.period.toNat / 6 ≤ (s.timeNow - s.tLast).toNat ∧ s.fetch = .ok .evalAdvance) ∧
    (let s := evaluating 50 5 6000 0 999
     s.step.toNat < 6 ∧ s.phase = 0b001 ∧ s.cfg.minSpeed ≤ s.setpoint.toNat ∧
     (s.timeNow - s.tLast).toNat < s.period.toNat / 6 ∧ s.fetch = .ok .evalHold) := by decide

/-- The SETTLE rows, for `OperationMapSelectsTheRow` and `SettleWritesOnlyThePhase`: 19 and 20 units against `SETTLE_TIME = 20`. -/
theorem witness_OperationMap_settle :
    (let s := settling 1019
     s.step.toNat < 6 ∧ s.phase = 0b010 ∧ (s.timeNow - s.tLast).toNat < s.cfg.settleTime ∧ s.fetch = .ok .settleWait) ∧
    (let s := settling 1020
     s.step.toNat < 6 ∧ s.phase = 0b010 ∧ s.cfg.settleTime ≤ (s.timeNow - s.tLast).toNat ∧ s.fetch = .ok .settleDone) := by decide

/-- The SENSE rows, for `OperationMapSelectsTheRow` and the two SENSE operations: a sample at the midpoint has sign 0, which differs from the sign of 600 and agrees with that of 512. -/
theorem witness_OperationMap_sense :
    (let s := sensing 0 600 1020 900 900 512
     s.step.toNat < 6 ∧ s.phase = 0b011 ∧ (0 : Fin 6).val = s.step.toNat ∧
     Int.sign ((s.sample 0 : Int) - s.cfg.vmid) ≠ Int.sign ((s.prev : Int) - s.cfg.vmid) ∧ s.fetch = .ok .senseCross) ∧
    (let s := sensing 5 512 1020 512 0 0
     s.step.toNat < 6 ∧ s.phase = 0b011 ∧ (5 : Fin 6).val = s.step.toNat ∧
     Int.sign ((s.sample 5 : Int) - s.cfg.vmid) = Int.sign ((s.prev : Int) - s.cfg.vmid) ∧ s.fetch = .ok .senseNocross) := by decide

/-- The GATE rows, for `OperationMapSelectsTheRow` and `GateWritesOnlyTheSwitches`: 501 and 500 units against an on-time of 500. -/
theorem witness_OperationMap_gate :
    (let s := gating 6000 500 501
     s.step.toNat < 6 ∧ s.phase = 0b100 ∧ s.period.toNat / 6 * s.setpoint.toNat / 1000 < (s.tNow - s.tLast).toNat ∧
     s.fetch = .ok .gateOff) ∧
    (let s := gating 6000 500 500
     s.step.toNat < 6 ∧ s.phase = 0b100 ∧ (s.tNow - s.tLast).toNat ≤ s.period.toNat / 6 * s.setpoint.toNat / 1000 ∧
     s.fetch = .ok .gateKeep) := by decide

theorem witness_FetchedOperationIsWellFormed :
    (polling (frame 0x7FF 1 2)).fetch = .ok (.pollOtherId 0x7FF 1 2) := by decide

theorem witness_ConsecutiveStepsSwapOneSwitch : (0 : Fin 6).val = ((5 : Fin 6).val + 1) % 6 := by decide

theorem witness_FloatingPhasesAreThreeStepsApart :
    (2 : Fin 6).val = ((5 : Fin 6).val + 3) % 6 ∧ (0 : Fin 6).val = ((5 : Fin 6).val + 1) % 6 := by decide

/-- For `SenseCrossEstimatesThePeriod` and `SenseNocrossKeepsThePeriod`: steps 0 and 5. -/
theorem witness_Sense_legal_step :
    (sensing 0 0 0 0 0 0).step.toNat < 6 ∧ (sensing 5 0 0 0 0 0).step.toNat < 6 ∧
    (stateOf (exec .senseCross (sensing 5 0 1021 700 0 0))).map (·.prev) = some 700 ∧
    (stateOf (exec .senseNocross (sensing 5 0 1021 700 0 0))).map (·.prev) = some 700 := by decide

theorem witness_SenseFaultsOnAReservedStep :
    6 ≤ (sensing 6 0 0 0 0 0).step.toNat ∧ 6 ≤ (sensing 7 0 0 0 0 0).step.toNat := by decide

theorem witness_DriveAllOffClearsTheSwitches : base.out = 0x00 := by decide

theorem witness_CallersWriteWhatTheDriverWrites :
    let s := evaluating 500 5 6000 10000 11000
    ((0 : Fin 6).val = (s.step.toNat + 1) % 6 ∧ decodeSw (swTab 0) = .ok .driveStep0 ∧
      ∃ t, exec .evalAdvance s = .next t ∧ ∃ d, exec .driveStep0 s = .next d) ∧
    (∃ t, exec .evalIdle s = .next t ∧ ∃ d, exec .driveAllOff s = .next d) ∧
    (∃ t, exec .gateOff s = .next t ∧ ∃ d, exec .driveAllOff s = .next d) :=
  ⟨⟨rfl, rfl, _, rfl, _, rfl⟩, ⟨_, rfl, _, rfl⟩, ⟨_, rfl, _, rfl⟩⟩

theorem witness_StepRunsTheDecodedOperation :
    let s := gating 6000 500 501
    s.rst = false ∧ s.step.toNat = (2 : Fin 6).val ∧ decode s.cfg (.clock (s.clockWord 2)) = .ok .gateOff := by decide

theorem witness_ResetClockLoadsTheResetValues : ({ settling 0 with step := 7, clockIn := [reset 0] } : State).rst = true := by decide

/-- A running state with the invariants of 10_state.md R44. -/
theorem witness_StepKeepsTheInvariant : (gating 6000 500 501).Inv :=
  ⟨by decide, by decide, .inr ⟨2, by decide⟩, by decide, by decide⟩

theorem witness_NoRunShortsAPhase :
    (gating 6000 500 501).Inv ∧ ∃ t, runClocks 1 (gating 6000 500 501) = .next t :=
  ⟨witness_StepKeepsTheInvariant, _, rfl⟩

theorem witness_StepKeepsGateReady :
    ((settling 1020).GateReady ∧ ∃ t, step (settling 1020) = .next t) ∧
    ((evaluating 50 5 6000 0 999).GateReady ∧ ∃ t, step (evaluating 50 5 6000 0 999) = .next t) :=
  ⟨⟨⟨by decide, by decide⟩, _, rfl⟩, ⟨⟨by decide, by decide⟩, _, rfl⟩⟩

theorem witness_FullSpeedGateNeverSwitchesOff :
    (let s := gating 6000 1000 999
     s.GateReady ∧ s.step.toNat < 6 ∧ s.phase = 0b100 ∧ 1000 ≤ s.setpoint.toNat) ∧
    (let s := gating 5 50 0
     s.GateReady ∧ s.step.toNat < 6 ∧ s.phase = 0b100 ∧ s.period.toNat < 6) :=
  ⟨⟨⟨by decide, by decide⟩, by decide⟩, ⟨⟨by decide, by decide⟩, by decide⟩⟩

theorem witness_OnlyAMatchingFrameWritesTheSetpoint :
    let s := polling (frame 0x100 0xFF 0xFF)
    ∃ t, step s = .next t ∧ s.rst = false ∧ t.setpoint ≠ s.setpoint := ⟨_, rfl, by decide⟩

theorem witness_StepAdvancesByOneModuloSix :
    let s := evaluating 500 5 6000 10000 11000
    ∃ t, step s = .next t ∧ s.rst = false ∧ t.step ≠ s.step := ⟨_, rfl, by decide⟩

theorem witness_OnlyACrossingWritesThePeriod :
    let s := sensing 1 300 1021 100 700 50
    ∃ t, step s = .next t ∧ s.rst = false ∧ t.period ≠ s.period := ⟨_, rfl, by decide⟩

theorem witness_TimeRegistersAreWrittenInEval :
    (let s := evaluating 500 5 6000 10000 11000
     ∃ t, step s = .next t ∧ s.rst = false ∧ s.phase = 0b001 ∧ t.tLast ≠ s.tLast) ∧
    (∃ t, step (settling 1019) = .next t ∧ (settling 1019).rst = false ∧ (settling 1019).phase ≠ 0b001) :=
  ⟨⟨_, rfl, by decide⟩, ⟨_, rfl, by decide⟩⟩

theorem witness_PrevIsWrittenInEverySense :
    (let s := sensing 1 300 1021 100 700 50
     ∃ t, step s = .next t ∧ s.rst = false ∧ s.phase = 0b011) ∧
    (∃ t, step (settling 1019) = .next t ∧ (settling 1019).rst = false ∧ (settling 1019).phase ≠ 0b011) :=
  ⟨⟨_, rfl, by decide⟩, ⟨_, rfl, by decide⟩⟩

theorem witness_OutIsWrittenByEvalAndGate :
    (let s := { evaluating 49 3 6000 0 0 with out := 0x06 }
     ∃ t, step s = .next t ∧ s.rst = false ∧ t.out ≠ s.out) ∧
    (let s := evaluating 50 3 6000 0 1000
     ∃ t, step s = .next t ∧ s.rst = false ∧ t.out ≠ s.out) ∧
    (∃ t, step (gating 6000 500 501) = .next t ∧ (gating 6000 500 501).rst = false ∧ t.out ≠ (gating 6000 500 501).out) :=
  ⟨⟨_, rfl, by decide⟩, ⟨_, rfl, by decide⟩, ⟨_, rfl, by decide⟩⟩

theorem witness_ItemsAreConsumedInPollOnly :
    (∃ t, step (polling (frame 0x500 0 0)) = .next t ∧ (polling (frame 0x500 0 0)).rst = false ∧
      (polling (frame 0x500 0 0)).phase = 0b000) ∧
    (∃ t, step (settling 0) = .next t ∧ (settling 0).rst = false ∧ (settling 0).phase ≠ 0b000) ∧
    (let s := { polling (frame 0x500 0 0) with clockIn := [reset 0] }
     ∃ t, step s = .next t ∧ s.rst = true) :=
  ⟨⟨_, rfl, by decide⟩, ⟨_, rfl, by decide⟩, ⟨_, rfl, by decide⟩⟩

theorem witness_DesignParametersNeverChange :
    (∃ t, step (settling 0) = .next t) ∧ (∃ t, exec .settleWait (settling 0) = .next t) := ⟨⟨_, rfl⟩, ⟨_, rfl⟩⟩

/-- In SENSE of step 1 channels A and C may differ, and B above its `ADC_W` bits; in POLL the time may. -/
theorem witness_UnreadInputsHaveNoEffect :
    (let s := sensing 1 300 1021 100 700 50
     s.clockIn = tick 1021 100 700 50 :: [] ∧ s.phase = 0b011 ∧ (1 : Fin 6).val = s.step.toNat ∧
     ClockInput.channel (tick 1021 100 700 50) (floatTab 1) % 2 ^ s.cfg.adcW =
       ClockInput.channel (tick 1021 9 1724 9) (floatTab 1) % 2 ^ s.cfg.adcW) ∧
    (let s := polling none
     s.clockIn = tick 7 :: [] ∧ (tick 7).rst = (tick 8).rst ∧
     ¬ (s.phase = 0b001 ∨ s.phase = 0b010 ∨ s.phase = 0b011)) := by decide

/-- The two clocks of an idle iteration, at `SETPOINT = 49`. -/
theorem witness_IdleIterationIsIter :
    let s : State := { polling none with setpoint := 49, clockIn := tick 3 :: tick 4 :: [] }
    s.phase = 0b000 ∧ s.step.toNat < 6 ∧ s.clockIn = tick 3 :: tick 4 :: [] ∧ (tick 3).rst = false ∧ (tick 4).rst = false ∧
    (Spec.polledSetpoint s.cfg s.item s.setpoint).toNat < s.cfg.minSpeed := by decide

theorem witness_HoldIterationIsIter :
    let s : State := { polling none with clockIn := tick 3 :: tick 999 :: tick 5 :: [] }
    s.phase = 0b000 ∧ s.step.toNat < 6 ∧ (tick 3).rst = false ∧ (tick 999).rst = false ∧ (tick 5).rst = false ∧
    s.cfg.minSpeed ≤ (Spec.polledSetpoint s.cfg s.item s.setpoint).toNat ∧
    Spec.subW (tick 999).timeNow s.tLast < s.period.toNat / 6 := by decide

/-- One SETTLE clock that waits (19 units), one that ends the wait (20). -/
theorem witness_AdvanceIterationIsIter :
    let s : State := { polling none with
      clockIn := tick 3 :: tick 1000 :: ([tick 1019] ++ tick 1020 :: tick 1021 :: tick 5 :: []) }
    s.phase = 0b000 ∧ s.step.toNat < 6 ∧
    (∀ i ∈ tick 3 :: tick 1000 :: tick 1020 :: tick 1021 :: tick 5 :: [tick 1019], i.rst = false) ∧
    s.cfg.minSpeed ≤ (Spec.polledSetpoint s.cfg s.item s.setpoint).toNat ∧
    s.period.toNat / 6 ≤ Spec.subW (tick 1000).timeNow s.tLast ∧
    (∀ w ∈ [tick 1019], Spec.subW w.timeNow (tick 1000).timeNow < s.cfg.settleTime) ∧
    s.cfg.settleTime ≤ Spec.subW (tick 1020).timeNow (tick 1000).timeNow := by decide

theorem witness_IdlingHoldsTheSchedulerState :
    let s : State := { base with setpoint := 49, out := 0x24, clockIn := [tick 1, tick 2], rxIn := [frame 0x500 3 0xE8] }
    s.phase = 0b000 ∧ s.step.toNat < 6 ∧ s.setpoint.toNat < s.cfg.minSpeed ∧ 2 * 1 ≤ s.clockIn.length ∧ 1 ≤ s.rxIn.length ∧
    (∀ i ∈ s.clockIn.take (2 * 1), i.rst = false) ∧ (∀ it ∈ s.rxIn.take 1, ¬ recognised s.cfg it) ∧ 1 ≤ 1 := by decide

theorem witness_SettleHangsWhileTimeFallsShort :
    let s : State := { settling 0 with clockIn := [tick 1000, tick 1019] }
    s.phase = 0b010 ∧ s.step.toNat < 6 ∧ 2 ≤ s.clockIn.length ∧
    ∀ i ∈ s.clockIn.take 2, i.rst = false ∧ (i.timeNow - s.tLast).toNat < s.cfg.settleTime := by decide

theorem witness_SenseComesAfterTheSettleTime :
    let s : State := { settling 0 with clockIn := [tick 1020, tick 1021] }
    ∃ t, step s = .next t ∧ s.cfg.Valid ∧ t.phase = 0b011 ∧ (s.timeNow - s.tLast).toNat ≤ (t.timeNow - t.tLast).toNat :=
  ⟨_, rfl, by decide⟩

/-- Program P3 of 95_test_vectors.md sets `SETPOINT = 10`. -/
theorem witness_LowSetpointIsOffWithinOneIteration :
    let s : State := { base with out := 0x24, clockIn := tick 1 :: tick 2 :: [], rxIn := [frame 0x100 0 10] }
    s.phase = 0b000 ∧ s.step.toNat < 6 ∧ s.clockIn = tick 1 :: tick 2 :: [] ∧ (tick 1).rst = false ∧ (tick 2).rst = false ∧
    s.matching ∧ 256 * s.item.d0.toNat + s.item.d1.toNat < s.cfg.minSpeed := by decide

theorem witness_FirstAdvanceAfterResetIsStepOne :
    let s : State := { settling 0 with clockIn := [reset 0, tick 1, tick 1000, tick 2], rxIn := [frame 0x100 0x01 0xF4] }
    ∃ t, step s = .next t ∧ s.rst = true ∧ t.clockIn = tick 1 :: tick 1000 :: [tick 2] ∧ (tick 1).rst = false ∧
      (tick 1000).rst = false ∧ (Spec.polledSetpoint t.cfg t.item 0).toNat ≥ t.cfg.minSpeed ∧
      t.cfg.pInit.toNat / 6 ≤ (tick 1000).timeNow.toNat := ⟨_, rfl, by decide⟩

theorem witness_CrossingMakesTheIntervalTheElapsedTime :
    let s := { sensing 1 0 715827882 0 0 0 with tLast := 0 }
    ∃ t, exec .senseCross s = .next t ∧ 6 * (s.timeNow - s.tLast).toNat < 2 ^ 32 := ⟨_, rfl, by decide⟩

theorem witness_PeriodIsZeroExactlyAtZeroOrHalf :
    (∃ t, exec .senseCross (sensing 1 0 1000 0 0 0) = .next t ∧ t.period = 0) ∧
    (∃ t, exec .senseCross { sensing 1 0 0x80000000 0 0 0 with tLast := 0 } = .next t ∧ t.period = 0) ∧
    (∃ t, exec .senseCross (sensing 1 0 1001 0 0 0) = .next t ∧ t.period ≠ 0) :=
  ⟨⟨_, rfl, by decide⟩, ⟨_, rfl, by decide⟩, ⟨_, rfl, by decide⟩⟩

theorem witness_EstimateNeverDependsOnASample :
    let s := sensing 1 300 1021 100 700 50
    let s' := sensing 0 900 1021 0 0 7
    ∃ t t', step s = .next t ∧ step s' = .next t' ∧ s.rst = false ∧ s'.rst = false ∧ s.phase = 0b011 ∧ s'.phase = 0b011 ∧
      s.timeNow = s'.timeNow ∧ s.tLast = s'.tLast ∧ s.period = s'.period ∧ t.period ≠ s.period ∧ t'.period ≠ s'.period :=
  ⟨_, _, rfl, rfl, by decide⟩

/-- The EVAL clock of the next iteration comes at the very time of the SENSE clock. -/
theorem witness_IterationAfterACrossingAdvances :
    let s : State := { sensing 1 300 0 0 0 0 with
      setpoint := 50, clockIn := tick 1021 100 700 50 :: tick 2 :: tick 3 :: [tick 1021], rxIn := [none] }
    ∃ u, s.phase = 0b011 ∧ s.step.toNat = (1 : Fin 6).val ∧
      s.clockIn = tick 1021 100 700 50 :: tick 2 :: tick 3 :: [tick 1021] ∧
      crossing s.cfg (s.sample 1) s.prev = true ∧ 6 * ((tick 1021).timeNow - s.tLast).toNat < 2 ^ 32 ∧
      runClocks 3 s = .next u ∧ u.cfg.minSpeed ≤ u.setpoint.toNat ∧
      ((tick 1021).timeNow - s.tLast).toNat ≤ (u.timeNow - u.tLast).toNat :=
  ⟨_, by decide, by decide, by decide, by decide, by decide, rfl, by decide, by decide⟩

/-- W1, and the worked value of 44_speed_modulator.md R187. -/
theorem witness_OnTimeIsTheFlooredShare :
    (gating 6000 500 0).onTime = 500 ∧ (gating 6005 333 0).onTime = 333 := by decide

/-- Just below, at and above full scale (`INTERVAL = 1000`). -/
theorem witness_OnTimeAgainstTheInterval :
    (gating 6000 999 0).setpoint.toNat ≤ 1000 ∧ (gating 6000 999 0).onTime = 999 ∧
    (gating 6000 1000 0).setpoint.toNat = 1000 ∧ (gating 6000 1000 0).onTime = 1000 ∧
    1000 ≤ (gating 6000 1001 0).setpoint.toNat ∧ (gating 6000 1001 0).onTime = 1001 := by decide

end Sys2Proof.Tests
end

/-! # Proofs of the state's statements (10_state.md): reset, the invariant of R44, and who writes what. -/

namespace Sys2Proof.Machine

/-! ### The combined writes of one clock -/

section
variable (s : State)

@[simp] theorem State.snapshot_step : s.snapshot.step = s.step := rfl
@[simp] theorem State.snapshot_period : s.snapshot.period = s.period := rfl
@[simp] theorem State.snapshot_tLast : s.snapshot.tLast = s.tLast := rfl
@[simp] theorem State.snapshot_setpoint : s.snapshot.setpoint = s.setpoint := rfl
@[simp] theorem State.snapshot_prev : s.snapshot.prev = s.prev := rfl
@[simp] theorem State.snapshot_out : s.snapshot.out = s.out := rfl
@[simp] theorem State.snapshot_phase : s.snapshot.phase = s.phase := rfl
@[simp] theorem State.snapshot_tNow : s.snapshot.tNow = s.timeNow := rfl
@[simp] theorem State.snapshot_cfg : s.snapshot.cfg = s.cfg := rfl
@[simp] theorem State.snapshot_clockIn : s.snapshot.clockIn = s.clockIn := rfl
@[simp] theorem State.snapshot_rxIn : s.snapshot.rxIn = s.rxIn := rfl
@[simp] theorem State.snapshot_clock : s.snapshot.clock = s.clock := rfl

@[simp] theorem State.polled_step : s.polled.step = s.step := rfl
@[simp] theorem State.polled_period : s.polled.period = s.period := rfl
@[simp] theorem State.polled_tLast : s.polled.tLast = s.tLast := rfl
@[simp] theorem State.polled_setpoint : s.polled.setpoint = s.setpoint := rfl
@[simp] theorem State.polled_prev : s.polled.prev = s.prev := rfl
@[simp] theorem State.polled_out : s.polled.out = s.out := rfl
@[simp] theorem State.polled_phase : s.polled.phase = Phase.eval.code := rfl
@[simp] theorem State.polled_tNow : s.polled.tNow = s.tNow := rfl
@[simp] theorem State.polled_cfg : s.polled.cfg = s.cfg := rfl
@[simp] theorem State.polled_clockIn : s.polled.clockIn = s.clockIn := rfl
@[simp] theorem State.polled_rxIn : s.polled.rxIn = s.rxIn.tail := rfl
@[simp] theorem State.polled_clock : s.polled.clock = s.clock := rfl

/-- A POLL clock's conditional write of `SETPOINT` is one write of a chosen value, so the field lemmas of `setSetpoint` serve it. -/
@[simp] theorem State.ite_setSetpoint (p : Prop) [Decidable p] (v : SetpointWord) :
    (if p then s.setSetpoint v else s) = s.setSetpoint (if p then v else s.setpoint) := by
  split <;> rfl

end

theorem Phase.code_toNat_lt (p : Phase) : p.code.toNat < 5 := by cases p <;> decide

theorem nextIndex_ne (w : StepCode) : (nextIndex w).val ≠ w.toNat := by
  rw [nextIndex_val]
  omega

/-- A clock with legal `STEP` and `PHASE` answers a next state (40_sequencer.md R106). -/
theorem exists_step_eq_next {s : State} (hk : s.step.toNat < 6) (hp : s.phase.toNat < 5) : ∃ t, step s = .next t := by
  cases hr : s.rst with
  | true => exact ⟨_, step_of_rst hr⟩
  | false =>
    have hk' : s.step.toNat = (⟨s.step.toNat, hk⟩ : Fin 6).val := rfl
    obtain ⟨p, hp⟩ := (phase_cases s.phase).resolve_right (Nat.not_le.mpr hp)
    cases p with
    | poll => exact ⟨_, step_poll hr hk' hp⟩
    | eval => exact ⟨_, step_eval hr hk' hp⟩
    | settle => exact ⟨_, step_settle hr hk' hp⟩
    | sense => exact ⟨_, step_sense hr hk' hp⟩
    | gate => exact ⟨_, step_gate hr hk' hp⟩

/-! ### The invariant of 10_state.md R44, write by write -/

namespace State.Inv
variable {s : State} (h : s.Inv)
include h

theorem setPeriod (v : Time) : (s.setPeriod v).Inv := { h with }
theorem setSetpoint (v : SetpointWord) : (s.setSetpoint v).Inv := { h with }
theorem snapshot : s.snapshot.Inv := { h with }
theorem endClock : s.endClock.Inv := { h with }

theorem setPhase (p : Phase) : (s.setPhase p).Inv := { h with phase_lt := Phase.code_toNat_lt p }

theorem setPrev {v : Nat} (hv : v < 2 ^ s.cfg.adcW) : (s.setPrev v).Inv := { h with prev_lt := hv }

theorem drive_off : (s.drive 0x00).Inv := { h with out_word := .inl rfl }

theorem polled : s.polled.Inv := { h.setPhase .eval with }

/-- The new step's word goes with the new step, whenever the step is recorded. -/
theorem advance (k : Fin 6) (v : Time) : (((s.setStep k).setTLast v).drive (swTab k)).Inv :=
  { h with
    step_lt := (toNat_ofNat_step k).symm ▸ k.isLt
    out_word := .inr ⟨k, toNat_ofNat_step k, rfl⟩ }

end State.Inv

/-- The reset values meet the invariant whatever the registers held before. -/
theorem resetRegs_inv {s : State} (h : s.cfg.Valid) : s.resetRegs.Inv where
  step_lt := Nat.succ_pos 5
  phase_lt := Phase.code_toNat_lt .poll
  out_word := .inl rfl
  prev_lt := Nat.two_pow_pos _
  cfg_valid := h

/-- The invariant is kept by every clock that answers a next state. -/
theorem step_keeps_inv {s t : State} (h : s.Inv) (ht : step s = .next t) : t.Inv := by
  obtain ⟨-, rfl⟩ | ⟨-, k, -, hc⟩ := step_cases ht
  · exact (resetRegs_inv h.cfg_valid).endClock
  obtain ⟨-, rfl⟩ | ⟨-, -, rfl⟩ | ⟨-, -, -, rfl⟩ | ⟨-, -, -, rfl⟩ | ⟨-, rfl⟩ | ⟨-, rfl⟩ | ⟨-, rfl⟩ := hc
  · rw [State.ite_setSetpoint]
    exact (h.setSetpoint _).polled.endClock
  · exact (h.snapshot.drive_off.setPhase _).endClock
  · exact ((h.snapshot.advance _ _).setPhase _).endClock
  · exact (h.snapshot.setPhase _).endClock
  · exact (h.setPhase _).endClock
  · exact (((h.setPrev (s.sense_lt _)).setPhase _).setPeriod _).endClock
  · cases s.expired
    · exact (h.setPhase .poll).endClock
    · exact (h.drive_off.setPhase _).endClock

/-- Settles O30: the step is total on legal `STEP` and `PHASE`, and each of its writes keeps the invariant. -/
theorem stepKeepsTheInvariant : Obligations.StepKeepsTheInvariant := by
  intro s h
  obtain ⟨t, ht⟩ := exists_step_eq_next h.step_lt h.phase_lt
  exact ⟨t, ht, step_keeps_inv h ht⟩

/-! ### Reset -/

/-- Settles O28: the legal parameters give `P_INIT` at least 1, the rest is the definition of the reset state. -/
theorem resetStateHoldsTheResetValues : Obligations.ResetStateHoldsTheResetValues := by
  obtain ⟨-, -, -, -, -, -, hp⟩ := reset_cfg_valid
  have h1 : 1 ≤ State.reset.cfg.pInit.toNat :=
    Nat.one_le_iff_ne_zero.mpr fun h0 => hp (BitVec.eq_of_toNat_eq h0)
  exact ⟨rfl, rfl, h1, rfl, rfl, rfl, rfl, rfl, rfl⟩

/-- Settles O29: the state after reset is what a reset clock's register load makes of it. -/
theorem resetStateHasTheInvariant : Obligations.ResetStateHasTheInvariant :=
  show State.reset.resetRegs.Inv from resetRegs_inv reset_cfg_valid

/-- Settles O32: both clauses of `GateReady` speak of phases other than POLL. -/
theorem resetStateIsGateReady : Obligations.ResetStateIsGateReady where
  after_advance h := absurd h (by decide)
  at_gate h := absurd h (by decide)

/-! ### Who writes what -/

/-- Settles O39: of the seven clocks only SENSE writes `PREV`. -/
theorem prevIsWrittenInEverySense : Obligations.PrevIsWrittenInEverySense := by
  intro s t ht hr
  obtain ⟨hr', -⟩ | ⟨-, k, hk, hc⟩ := step_cases ht
  · simp [hr] at hr'
  have hv : s.sample k = Spec.sample s.cfg s.input (Spec.float s.step.toNat) := by rw [hk, Spec.sample_eq]
  obtain ⟨hp, rfl⟩ | ⟨hp, -, rfl⟩ | ⟨hp, -, -, rfl⟩ | ⟨hp, -, -, rfl⟩ | ⟨hp, rfl⟩ | ⟨hp, rfl⟩ | ⟨hp, rfl⟩ := hc <;>
    simp [hp, ← hv, Phase.code]

/-- Settles O40: POLL, a hold, SETTLE and SENSE leave `OUT`; the other clocks write it as the statement says. -/
theorem outIsWrittenByEvalAndGate : Obligations.OutIsWrittenByEvalAndGate := by
  intro s t ht hr hne
  obtain ⟨hr', -⟩ | ⟨-, k, -, hc⟩ := step_cases ht
  · simp [hr] at hr'
  obtain ⟨-, rfl⟩ | ⟨hp, ha, rfl⟩ | ⟨hp, -, -, rfl⟩ | ⟨-, -, -, rfl⟩ | ⟨-, rfl⟩ | ⟨-, rfl⟩ | ⟨hp, rfl⟩ := hc
  · simp at hne
  · exact .inl ⟨rfl, .inl ⟨hp, s.active_eq_false_iff.mp ha⟩⟩
  · have hn := toNat_ofNat_step (nextIndex s.step)
    refine .inr ⟨?_, hn ▸ (nextIndex s.step).isLt, hp, fun he => nextIndex_ne s.step (hn ▸ congrArg BitVec.toNat he)⟩
    exact (Spec.swtab_eq _).symm.trans (congrArg Spec.swtab hn.symm)
  · simp at hne
  · simp at hne
  · simp at hne
  · cases he : s.expired with
    | true => exact .inl ⟨by simp, .inr hp⟩
    | false => simp [he] at hne

theorem State.rxPop_of_rst {s : State} (hr : s.rst = true) : s.rxPop = false := by simp [State.rxPop, hr]

theorem State.rxPop_of_poll {s : State} (hr : s.rst = false) (hp : s.phase = Phase.poll.code) : s.rxPop = s.item.valid := by
  simp [State.rxPop, hr, hp]

theorem State.rxPop_of_ne_poll {s : State} (hp : s.phase ≠ Phase.poll.code) : s.rxPop = false := by simp [State.rxPop, hp]

/-- A clock without reset outside POLL leaves the receive port and `SETPOINT`. -/
theorem step_frame_of_ne_poll {s t : State} (ht : step s = .next t) (hr : s.rst = false) (hp : s.phase ≠ Phase.poll.code) :
    t.rxIn = s.rxIn ∧ t.setpoint = s.setpoint := by
  obtain ⟨hr', -⟩ | ⟨-, k, -, hc⟩ := step_cases ht
  · simp [hr] at hr'
  obtain ⟨hp', -⟩ | ⟨-, -, rfl⟩ | ⟨-, -, -, rfl⟩ | ⟨-, -, -, rfl⟩ | ⟨-, rfl⟩ | ⟨-, rfl⟩ | ⟨-, rfl⟩ := hc
  · exact absurd hp' hp
  all_goals exact ⟨rfl, rfl⟩

/-- A clock without reset in POLL moves the receive port on. -/
theorem step_rxIn_of_poll {s t : State} (ht : step s = .next t) (hr : s.rst = false) (hp : s.phase = Phase.poll.code) :
    t.rxIn = s.rxIn.tail := by
  obtain ⟨hr', -⟩ | ⟨-, k, hk, -⟩ := step_cases ht
  · simp [hr] at hr'
  rw [step_poll hr hk hp] at ht
  cases ht
  simp

/-- Settles O41. -/
theorem itemsAreConsumedInPollOnly : Obligations.ItemsAreConsumedInPollOnly := by
  intro s t ht
  refine ⟨fun hr hp => ⟨step_rxIn_of_poll ht hr hp, State.rxPop_of_poll hr hp⟩, fun hr hp => ?_, fun hr => ?_⟩
  · obtain ⟨hrx, hsp⟩ := step_frame_of_ne_poll ht hr hp
    exact ⟨hrx, State.rxPop_of_ne_poll hp, hsp⟩
  · rw [step_of_rst hr] at ht
    cases ht
    exact ⟨rfl, State.rxPop_of_rst hr⟩

/-- A clock keeps the parameters. -/
theorem step_cfg {s t : State} (ht : step s = .next t) : t.cfg = s.cfg := by
  obtain ⟨-, rfl⟩ | ⟨-, k, -, hc⟩ := step_cases ht
  · rfl
  obtain ⟨-, rfl⟩ | ⟨-, -, rfl⟩ | ⟨-, -, -, rfl⟩ | ⟨-, -, -, rfl⟩ | ⟨-, rfl⟩ | ⟨-, rfl⟩ | ⟨-, rfl⟩ := hc <;> simp

/-- Neither SENSE operation writes the parameters: on a legal STEP they complete by register writes, on a reserved one they stop. -/
theorem execSense_cfg {s t : State} (h : execSenseCross s = .next t ∨ execSenseNocross s = .next t) : t.cfg = s.cfg := by
  rcases Nat.lt_or_ge s.step.toNat 6 with hk | hk
  · rw [execSenseCross_of_lt (k := ⟨_, hk⟩) rfl, execSenseNocross_of_lt (k := ⟨_, hk⟩) rfl] at h
    obtain h | h := h <;> cases h <;> rfl
  · simp [execSenseCross, execSenseNocross, State.sensed_of_ge hk] at h

theorem exec_cfg {i : Instr} {s t : State} (h : exec i s = .next t) : t.cfg = s.cfg := by
  cases i with
  | senseCross => exact execSense_cfg (.inl h)
  | senseNocross => exact execSense_cfg (.inr h)
  | _ => cases h; rfl

/-- Settles O42. -/
theorem designParametersNeverChange : Obligations.DesignParametersNeverChange := ⟨fun _ _ => step_cfg, fun _ _ _ => exec_cfg⟩

/-! ### Inputs a clock does not read -/

/-- The transcription's sample of a listed input is the floating phase's channel, cut to the port. -/
theorem Spec.sample_float_eq_channel (c : Config) (i : ClockInput) (k : Fin 6) :
    Spec.sample c i (Spec.float k.val) = ClockInput.channel i (floatTab k) % 2 ^ c.adcW := by
  rw [Spec.float_eq, Spec.sample]
  generalize floatTab k = ch
  fin_cases ch <;> rfl

section
variable {s : State} {i j : ClockInput} {rest : List ClockInput} (hi : s.clockIn = i :: rest) (hri : i.rst = false)
  (hrj : j.rst = false) (hk : s.step.toNat < 6)
include hi hri hrj hk

/-- An EVAL clock reads nothing but the time. -/
theorem step_eval_input_congr (hp : s.phase = Phase.eval.code) (ht : i.timeNow = j.timeNow) :
    step { s with clockIn := j :: rest } = step s := by
  rcases Nat.lt_or_ge s.setpoint.toNat s.cfg.minSpeed with ha | ha
  · rw [step_idle_listed hi hri hk hp ha, ht]
    exact step_idle_listed rfl hrj hk hp ha
  rcases Nat.lt_or_ge (i.timeNow - s.tLast).toNat (s.period.toNat / 6) with hd | hd
  · rw [step_hold_listed hi hri hk hp ha hd, ht]
    exact step_hold_listed rfl hrj hk hp ha (ht ▸ hd)
  · rw [step_advance_listed hi hri hk hp ha hd, ht]
    exact step_advance_listed rfl hrj hk hp ha (ht ▸ hd)

/-- A SETTLE clock reads nothing but the time. -/
theorem step_settle_input_congr (hp : s.phase = Phase.settle.code) (ht : i.timeNow = j.timeNow) :
    step { s with clockIn := j :: rest } = step s := by
  rcases Nat.lt_or_ge (i.timeNow - s.tLast).toNat s.cfg.settleTime with hd | hd
  · rw [step_wait_listed hi hri hk hp hd]
    exact step_wait_listed rfl hrj hk hp (ht ▸ hd)
  · rw [step_done_listed hi hri hk hp hd]
    exact step_done_listed rfl hrj hk hp (ht ▸ hd)

/-- A SENSE clock reads nothing but the time and the floating phase's sample. -/
theorem step_sense_input_congr (hp : s.phase = Phase.sense.code) (ht : i.timeNow = j.timeNow)
    (hv : Spec.sample s.cfg i (Spec.float s.step.toNat) = Spec.sample s.cfg j (Spec.float s.step.toNat)) :
    step { s with clockIn := j :: rest } = step s := by
  rw [step_sense_listed hi hri hk hp, ht, hv]
  exact step_sense_listed rfl hrj hk hp

end

/-- Settles O43. -/
theorem unreadInputsHaveNoEffect : Obligations.UnreadInputsHaveNoEffect := by
  intro s i j rest hi hr htime hsample
  have hrs : s.rst = i.rst := State.rst_of_cons hi
  have hrs' : State.rst { s with clockIn := j :: rest } = i.rst := hr.symm
  cases hri : i.rst with
  | true =>
    rw [step_of_rst (hrs.trans hri), step_of_rst (hrs'.trans hri)]
    simp [State.endClock, State.resetRegs, hi]
  | false =>
    have hrj : j.rst = false := hr ▸ hri
    rcases Nat.lt_or_ge s.step.toNat 6 with hk | hk
    · rcases phase_cases s.phase with ⟨p, hp⟩ | hp
      · cases p with
        | poll =>
          rw [step_poll_listed hi hri hk hp]
          exact step_poll_listed rfl hrj hk hp
        | eval => exact step_eval_input_congr hi hri hrj hk hp (htime (.inl hp))
        | settle => exact step_settle_input_congr hi hri hrj hk hp (htime (.inr (.inl hp)))
        | sense =>
          refine step_sense_input_congr hi hri hrj hk hp (htime (.inr (.inr hp))) ?_
          have hv := hsample hp ⟨_, hk⟩ rfl
          rwa [← Spec.sample_float_eq_channel, ← Spec.sample_float_eq_channel] at hv
        | gate =>
          rw [step_gate_listed hi hri hk hp]
          exact step_gate_listed rfl hrj hk hp
      · rw [step_of_fault (hrs.trans hri) (State.fetch_of_phase_ge hk hp)]
        exact step_of_fault (hrs'.trans hri) (State.fetch_of_phase_ge hk hp)
    · rw [step_of_fault (hrs.trans hri) (State.fetch_of_ge hk)]
      exact step_of_fault (hrs'.trans hri) (State.fetch_of_ge hk)

end Sys2Proof.Machine

/-! # Proofs of the memory's statements (20_memory.md): the tables that STEP indexes. -/

namespace Sys2Proof.Machine

/-- The read of `FLOAT` comes before the write of `PERIOD`, so a `SENSE_CROSS` whose read faults estimates nothing. -/
theorem execSenseCross_of_ge {s : State} (h : 6 ≤ s.step.toNat) : execSenseCross s = .fault .stepRange := by
  simp [execSenseCross, State.sensed_of_ge h]

theorem execSenseNocross_of_ge {s : State} (h : 6 ≤ s.step.toNat) : execSenseNocross s = .fault .stepRange :=
  State.sensed_of_ge h

/-- Settles O19: both operations read `FLOAT` at `STEP` (R52), which has no row 6 or 7. -/
theorem senseFaultsOnAReservedStep : Obligations.SenseFaultsOnAReservedStep :=
  fun _ h => ⟨execSenseCross_of_ge h, execSenseNocross_of_ge h⟩

end Sys2Proof.Machine

/-! # Proofs of the encodings' statements (30_encoding.md): FRAME, the operation map, the switch words. -/

namespace Sys2Proof

/-! ### FRAME: the field readers bit by bit (R71) -/

theorem getLsbD_frameD1 (F : Nat) {j : Nat} (hj : j < 8) : (frameD1 F).getLsbD j = F.testBit j := by
  simp only [frameD1, BitVec.getLsbD_ofNat, hj, decide_true, Bool.true_and]

theorem getLsbD_frameD0 (F : Nat) {j : Nat} (hj : j < 8) : (frameD0 F).getLsbD j = F.testBit (8 + j) := by
  simp only [frameD0, BitVec.getLsbD_ofNat, hj, Nat.testBit_div_two_pow, decide_true, Bool.true_and, Nat.add_comm]

theorem testBit_frameId (c : Config) (F : Nat) {j : Nat} (hj : j < c.idW) : (frameId c F).testBit j = F.testBit (16 + j) := by
  simp only [frameId, Nat.testBit_mod_two_pow, hj, Nat.testBit_div_two_pow, decide_true, Bool.true_and, Nat.add_comm]

theorem frameErr_eq_testBit (c : Config) (F : Nat) : frameErr c F = F.testBit (c.idW + 16) := by
  rw [frameErr, Nat.div_div_eq_div_mul, ← Nat.pow_add, Nat.add_comm 16, Nat.testBit_eq_decide_div_mod_eq]
  rfl

theorem frameValid_eq_testBit (c : Config) (F : Nat) : frameValid c F = F.testBit (c.idW + 17) := by
  rw [frameValid, Nat.div_div_eq_div_mul, ← Nat.pow_succ, Nat.div_div_eq_div_mul, ← Nat.pow_add,
    show 16 + (c.idW + 1) = c.idW + 17 by omega, Nat.testBit_eq_decide_div_mod_eq]
  rfl

theorem frameId_lt (c : Config) (F : Nat) : frameId c F < 2 ^ c.idW := Nat.mod_lt _ (Nat.two_pow_pos _)

/-! ### What decodes is well-formed, and a FRAME word is what its operation encodes to -/

theorem decodeFrame_wf (c : Config) (F : Nat) : (decodeFrame c F).wf c = true := by
  have hid := frameId_lt c F
  unfold decodeFrame
  split
  · split
    · simp [Instr.wf, hid]
    · split
      · rfl
      · simpa [Instr.wf, hid]
  · simp [Instr.wf, hid]

theorem decodeClock_wf {c : Config} {w : ClockWord} {i : Instr} (h : decodeClock c w = .ok i) : i.wf c = true := by
  rcases phase_cases w.phase with ⟨p, hp⟩ | hp
  · rw [decodeClock_of_phase c w hp] at h
    cases p with
    | poll => cases h; exact decodeFrame_wf c w.frame
    | eval => cases h; cases w.active <;> cases w.trigger <;> rfl
    | settle => cases h; cases w.settled <;> rfl
    | sense => cases h; cases w.cross <;> rfl
    | gate => cases h; cases w.expired <;> rfl
  · rw [decodeClock_of_ge c w hp] at h
    cases h

/-- Whichever of the four POLL operations a word selects, its operands and its row together give back all five fields. -/
theorem encode_decodeFrame (c : Config) (F : Nat) :
    encode c (decodeFrame c F) = .clock (ClockWord.ofFrame
      (packFrame c (frameValid c F) (frameErr c F) (frameId c F) (frameD0 F) (frameD1 F))) := by
  unfold decodeFrame
  cases frameValid c F with
  | false => rfl
  | true =>
    cases frameErr c F with
    | true => rfl
    | false => by_cases hid : frameId c F = c.frameId <;> simp [hid, encode]

/-- Settles O3: the five fields make the word (`packFrame_fields`). -/
theorem encodeOfDecodedFrameIsTheWord : Obligations.EncodeOfDecodedFrameIsTheWord := by
  intro c F hF
  exact ⟨by rw [encode_decodeFrame, packFrame_fields c hF], fun _ => decodeFrame_wf c F⟩

/-! ### SW: the 64 switch words (R77) -/

/-- The seven words the block produces. -/
theorem decodeSw_toBool_iff (w : SwWord) :
    (decodeSw w).toBool = true ↔ w ∈ ([0x00, 0x09, 0x21, 0x24, 0x06, 0x12, 0x18] : List SwWord) := by
  revert w; decide

/-- The name `shootThrough` is given to the words with both switches of a phase on and to no other: none of the seven is one. -/
theorem decodeSw_eq_shootThrough_iff (w : SwWord) : decodeSw w = .error .shootThrough ↔ shootThrough w = true := by
  revert w; decide

/-- Settles O4: the rejected shoot-through words are those of the predicate, so one count gives both. -/
theorem sevenSwitchWordsAreProduced : Obligations.SevenSwitchWordsAreProduced := by
  have hcount : ((List.finRange 64).countP fun k => shootThrough (BitVec.ofFin k)) = 37 := by decide
  refine ⟨decodeSw_toBool_iff, ?_, hcount, by decide⟩
  simpa only [decodeSw_eq_shootThrough_iff, Bool.decide_eq_true] using hcount

/-- Settles O5: the FRAME and SW words are read by the decoder, the PHASE words are the codes of EVAL and GATE. -/
theorem writtenOutWordsDecode : Obligations.WrittenOutWordsDecode :=
  ⟨by decide, by decide, by decide, by decide, decodePhase_code .eval, decodePhase_code .gate, by decide, by decide⟩

end Sys2Proof

namespace Sys2Proof.Machine

/-- Settles O1: the word read at the port is packed of the item's fields, and the readers that find them again read these bits. -/
theorem frameFieldsLieAtTheirBits : Obligations.FrameFieldsLieAtTheirBits := by
  intro s
  have hd1 : frameD1 s.frame = s.item.d1 := frameD1_packFrame ..
  have hd0 : frameD0 s.frame = s.item.d0 := frameD0_packFrame ..
  have hid : frameId s.cfg s.frame = s.item.id := (frameId_packFrame ..).trans (Nat.mod_eq_of_lt s.item_id_lt)
  have herr : frameErr s.cfg s.frame = s.item.err := frameErr_packFrame ..
  have hvalid : frameValid s.cfg s.frame = s.item.valid := frameValid_packFrame ..
  refine ⟨packFrame_lt .., fun j hj => ?_, fun j hj => ?_, fun j hj => ?_, ?_, ?_, hd1, hd0, hid, herr, hvalid⟩
  · rw [← getLsbD_frameD1 _ hj, hd1]
  · rw [← getLsbD_frameD0 _ hj, hd0]
  · rw [← testBit_frameId s.cfg _ hj, hid]
  · rw [← frameErr_eq_testBit, herr]
  · rw [← frameValid_eq_testBit, hvalid]

/-! ### The operation map (R81) -/

/-- What a clock selects is decoded from its clock word, in a legal step. -/
theorem State.fetch_ok {s : State} {i : Instr} (h : s.fetch = .ok i) :
    ∃ k : Fin 6, s.step.toNat = k.val ∧ decodeClock s.cfg (s.clockWord k) = .ok i := by
  rcases Nat.lt_or_ge s.step.toNat 6 with hk | hk
  · refine ⟨⟨_, hk⟩, rfl, ?_⟩
    rw [State.fetch_of_step (k := ⟨_, hk⟩) rfl] at h
    split at h
    · cases h
    · cases h
      assumption
  · rw [State.fetch_of_ge hk] at h
    cases h

/-- Settles O7. -/
theorem fetchedOperationIsWellFormed : Obligations.FetchedOperationIsWellFormed := by
  intro s i h
  obtain ⟨k, -, hd⟩ := State.fetch_ok h
  exact decodeClock_wf hd

/-- Settles O6: the fetch of each phase, with the selecting conditions as R81 writes them. -/
theorem operationMapSelectsTheRow : Obligations.OperationMapSelectsTheRow := by
  intro s hk
  have hs : s.step.toNat = (⟨_, hk⟩ : Fin 6).val := rfl
  refine ⟨fun hp => ?poll, fun hp => ?eval, fun hp => ?settle, fun hp k hk' => ?sense, fun hp => ?gate⟩
  case poll =>
    rw [State.fetch_poll hs hp]
    exact ⟨fun hv he hi => by simp [hv, he, hi], fun hv he hi => by simp [hv, he, hi], fun hv he => by simp [hv, he],
      fun hv => by simp [hv]⟩
  case eval =>
    rw [State.fetch_eval hs hp, ← s.active_iff, ← s.active_eq_false_iff, ← s.trigger_iff, ← s.trigger_eq_false_iff]
    exact ⟨fun ha => by simp [ha], fun ha ht => by simp [ha, ht], fun ha ht => by simp [ha, ht]⟩
  case settle =>
    rw [State.fetch_settle hs hp, ← s.settled_iff, ← s.settled_eq_false_iff]
    exact ⟨fun h => by simp [h], fun h => by simp [h]⟩
  case sense =>
    rw [State.fetch_sense hk'.symm hp, ← crossing_iff, ← crossing_eq_false_iff]
    exact ⟨fun h => by simp [State.cross, h], fun h => by simp [State.cross, h]⟩
  case gate =>
    rw [State.fetch_gate hs hp, ← s.expired_iff, ← s.expired_eq_false_iff]
    exact ⟨fun h => by simp [h], fun h => by simp [h]⟩

/-! ### The driver calls (R82) -/

/-- The operation of a switch word writes that word, and nothing else. -/
theorem exec_of_decodeSw {w : SwWord} {i : Instr} (h : decodeSw w = .ok i) (s : State) : exec i s = .next (s.drive w) := by
  unfold decodeSw at h
  split at h
  case h_8 => cases h
  all_goals
    rename_i hw
    rw [← BitVec.setWidth_eq w, ← BitVec.ofNat_toNat, hw]
    cases h
    rfl

theorem out_of_decodeSw {w : SwWord} {i : Instr} (hw : decodeSw w = .ok i) {s d : State} (h : exec i s = .next d) : d.out = w := by
  cases (exec_of_decodeSw hw s).symm.trans h
  rfl

/-- Settles O23: the driver operation of a word leaves that word (`out_of_decodeSw`), and so does each caller. -/
theorem callersWriteWhatTheDriverWrites : Obligations.CallersWriteWhatTheDriverWrites := by
  have hoff : decodeSw 0x00 = .ok .driveAllOff := by decide
  intro s t d
  refine ⟨fun k i hi => out_of_decodeSw hi, ⟨hoff, out_of_decodeSw hoff⟩, fun k i hk hi ht hd => ?_, fun ht hd => ?_, fun ht hd => ?_⟩
  · obtain rfl : k = nextIndex s.step := Fin.ext hk
    rw [out_of_decodeSw hi hd]
    cases ht
    rfl
  · rw [out_of_decodeSw hoff hd]
    cases ht
    rfl
  · rw [out_of_decodeSw hoff hd]
    cases ht
    rfl

end Sys2Proof.Machine

/-! # Proofs of the sequencer's statements (40_sequencer.md): the EVAL and SETTLE operations, one clock, one iteration. -/

namespace Sys2Proof.Machine

/-! ### EVAL_IDLE and the SETTLE operations -/

/-- Settles O13: the two writes and the return to POLL are the whole operation; the operation map (O6) gives its selection. -/
theorem evalIdleTurnsEverythingOff : Obligations.EvalIdleTurnsEverythingOff := by
  intro s
  refine ⟨rfl, fun hk hp ha => ?_⟩
  obtain ⟨-, heval, -⟩ := operationMapSelectsTheRow s hk
  obtain ⟨hidle, -⟩ := heval hp
  exact hidle ha

/-- Settles O16: each operation is one write of `PHASE`; the operation map (O6) gives their selection. -/
theorem settleWritesOnlyThePhase : Obligations.SettleWritesOnlyThePhase := by
  intro s
  refine ⟨rfl, rfl, fun hp => State.rxPop_of_ne_poll (hp ▸ by decide), fun hk hp => ?_, fun hk hp => ?_⟩
  all_goals
    obtain ⟨-, -, hsettle, -⟩ := operationMapSelectsTheRow s hk
    obtain ⟨hwait, hdone⟩ := hsettle hp
    assumption

/-! ### One clock -/

/-- Settles O24: the fetch decodes the clock word, and `finish` is the clock edge. -/
theorem stepRunsTheDecodedOperation : Obligations.StepRunsTheDecodedOperation := by
  intro s k i hr hk hd
  have hf : s.fetch = .ok i := by
    rw [State.fetch_of_step hk, show decodeClock s.cfg (s.clockWord k) = .ok i from hd]
  rw [step_of_fetch hr hf]
  cases exec i s <;> rfl

/-- Settles O38: only the EVAL clocks take the time, and of those only the advance writes `T_LAST`, with a new `STEP`. -/
theorem timeRegistersAreWrittenInEval : Obligations.TimeRegistersAreWrittenInEval := by
  intro s t ht hr
  obtain ⟨hr', -⟩ | ⟨-, k, -, hc⟩ := step_cases ht
  · simp [hr] at hr'
  obtain ⟨hp, rfl⟩ | ⟨hp, -, rfl⟩ | ⟨hp, -, -, rfl⟩ | ⟨hp, -, -, rfl⟩ | ⟨hp, rfl⟩ | ⟨hp, rfl⟩ | ⟨hp, rfl⟩ := hc
  case inr.inr.inr.inl => -- the advance
    have hn := toNat_ofNat_step (nextIndex s.step)
    have hne (he : BitVec.ofNat 3 (nextIndex s.step).val = s.step) : False :=
      nextIndex_ne s.step (hn ▸ congrArg BitVec.toNat he)
    exact ⟨fun _ => rfl, fun h => absurd hp h, fun _ => ⟨rfl, hne⟩⟩
  all_goals simp [hp, Phase.code]

/-- Settles O49: of all clocks only a SETTLE clock whose wait is over leads to SENSE, and it writes `PHASE` alone; the settle time is
at least 1 by the constraints on the parameters. -/
theorem senseComesAfterTheSettleTime : Obligations.SenseComesAfterTheSettleTime := by
  intro s t hv ht hph
  obtain ⟨-, ⟨hpos, -⟩, -⟩ := hv
  obtain ⟨-, rfl⟩ | ⟨-, k, -, hc⟩ := step_cases ht
  · simp [Phase.code] at hph
  obtain ⟨-, rfl⟩ | ⟨-, -, rfl⟩ | ⟨-, -, -, rfl⟩ | ⟨-, -, -, rfl⟩ | ⟨hp, rfl⟩ | ⟨-, rfl⟩ | ⟨-, rfl⟩ := hc
  case inr.inr.inr.inr.inr.inl => -- the SETTLE clock
    cases hs : s.settled with
    | false => simp [hs, Phase.code] at hph
    | true =>
      have hle := s.settled_iff.mp hs
      exact ⟨hp, hle, rfl, rfl, fun h => ⟨hle.trans h, hpos.trans (hle.trans h)⟩⟩
  all_goals simp [Phase.code] at hph

/-! ### One clock is the spec's `Step` (R106), phase by phase -/

theorem State.rxPop_iff (s : State) :
    s.rxPop = true ↔ s.rst = false ∧ s.phase = Phase.poll.code ∧ s.item.valid = true := by
  simp [State.rxPop, and_assoc]

theorem Spec.clockStep_of_rst {s : State} (hr : s.input.rst = true) : clockStep s = .next s.resetRegs.endClock := by
  simp only [clockStep, hr]
  rfl

section
variable {s : State} (hr : s.input.rst = false)
include hr

theorem Spec.clockStep_of_ge (hk : 6 ≤ s.step.toNat) : clockStep s = .fault .stepRange := by
  simp [clockStep, hr, hk]

variable (hk : s.step.toNat < 6)
include hk

theorem Spec.clockStep_of_phase_ge (hp : 5 ≤ s.phase.toNat) : clockStep s = .fault .phaseRange := by
  have hne (p : Phase) : s.phase ≠ p.code := fun he => absurd (Phase.code_toNat_lt p) (Nat.not_lt.mpr (he ▸ hp))
  have h0 : s.phase ≠ 0 := hne .poll
  have h1 : s.phase ≠ 1 := hne .eval
  have h2 : s.phase ≠ 2 := hne .settle
  have h3 : s.phase ≠ 3 := hne .sense
  have h4 : s.phase ≠ 4 := hne .gate
  simp only [clockStep, hr, ge_iff_le, Nat.not_le.mpr hk, h0, h1, h2, h3, h4, Bool.false_eq_true, if_false]

theorem step_eq_clockStep_of_poll (hp : s.phase = Phase.poll.code) : step s = Spec.clockStep s := by
  rw [step_poll hr (k := ⟨_, hk⟩) rfl hp, State.ite_setSetpoint, ← Spec.polledSetpoint_eq]
  simp only [Spec.clockStep, hr, ge_iff_le, Nat.not_le.mpr hk, hp, Phase.code]
  rfl

/-- The two tests of the pseudocode are `active` and `trigger`. -/
theorem step_eq_clockStep_of_eval (hp : s.phase = Phase.eval.code) : step s = Spec.clockStep s := by
  have ha := s.active_iff
  have ht := s.trigger_iff
  rw [← Spec.subW_eq, State.timeNow] at ht
  rw [step_eval hr (k := ⟨_, hk⟩) rfl hp, ← Spec.swtab_eq]
  simp only [Spec.clockStep, hr, ge_iff_le, Nat.not_le.mpr hk, hp, Phase.code, ← ht, ← Nat.not_le, ← ha]
  cases s.active <;> cases s.trigger <;> rfl

/-- The test of the pseudocode is `settled`. -/
theorem step_eq_clockStep_of_settle (hp : s.phase = Phase.settle.code) : step s = Spec.clockStep s := by
  have ht := s.settled_iff
  rw [← Spec.subW_eq, State.timeNow] at ht
  rw [step_settle hr (k := ⟨_, hk⟩) rfl hp]
  simp only [Spec.clockStep, hr, ge_iff_le, Nat.not_le.mpr hk, hp, Phase.code, ← ht]
  cases s.settled <;> rfl

theorem step_eq_clockStep_of_sense (hp : s.phase = Phase.sense.code) : step s = Spec.clockStep s := by
  rw [step_sense hr (k := ⟨_, hk⟩) rfl hp, ← Spec.sensedPeriod_eq, ← Spec.sample_eq, ← Spec.subW_eq]
  simp only [Spec.clockStep, hr, ge_iff_le, Nat.not_le.mpr hk, hp, Phase.code]
  rfl

theorem step_eq_clockStep_of_gate (hp : s.phase = Phase.gate.code) : step s = Spec.clockStep s := by
  rw [step_gate hr (k := ⟨_, hk⟩) rfl hp, ← Spec.gatedOut_eq]
  simp only [Spec.clockStep, hr, ge_iff_le, Nat.not_le.mpr hk, hp, Phase.code]
  rfl

end

/-- Settles O25: reset first, then the reserved encodings, then the five phases, in the order of the pseudocode. -/
theorem stepIsTheSpecsClockStep : Obligations.StepIsTheSpecsClockStep := by
  intro s
  refine ⟨?_, rfl, s.rxPop_iff⟩
  cases hr : s.rst with
  | true => rw [step_of_rst hr, Spec.clockStep_of_rst hr]
  | false =>
    rcases Nat.lt_or_ge s.step.toNat 6 with hk | hk
    · rcases phase_cases s.phase with ⟨p, hp⟩ | hp
      · cases p with
        | poll => exact step_eq_clockStep_of_poll hr hk hp
        | eval => exact step_eq_clockStep_of_eval hr hk hp
        | settle => exact step_eq_clockStep_of_settle hr hk hp
        | sense => exact step_eq_clockStep_of_sense hr hk hp
        | gate => exact step_eq_clockStep_of_gate hr hk hp
      · rw [step_of_fault hr (State.fetch_of_phase_ge hk hp), Spec.clockStep_of_phase_ge hr hk hp]
    · rw [step_of_fault hr (State.fetch_of_ge hk), Spec.clockStep_of_ge hr hk]

/-! ### One iteration is the spec's `Iter` (R107) -/

/-- A run is its first clock and then the rest of it. -/
theorem runClocks_of_step {n : Nat} {s t : State} {o : Host.Outcome State Fault Refusal} (h : step s = .next t)
    (hn : runClocks n t = o) : runClocks (n + 1) s = o :=
  (runClocks_succ_of_next h).trans hn

/-- SETTLE clocks that fall short leave everything but the clocked inputs (R103). -/
theorem runClocks_waits {s : State} {waits rest : List ClockInput} (hp : s.phase = Phase.settle.code) (hk : s.step.toNat < 6)
    (hi : s.clockIn = waits ++ rest) (hr : ∀ w ∈ waits, w.rst = false)
    (ht : ∀ w ∈ waits, (w.timeNow - s.tLast).toNat < s.cfg.settleTime) :
    runClocks waits.length s = .next { s with clockIn := rest, clock := s.clock + waits.length } := by
  induction waits generalizing s with
  | nil => cases hi; rfl
  | cons w ws ih =>
    obtain ⟨hrw, hr⟩ := List.forall_mem_cons.mp hr
    obtain ⟨htw, ht⟩ := List.forall_mem_cons.mp ht
    refine runClocks_of_step (step_wait_listed hi hrw hk hp htw) ?_
    refine Eq.trans (ih hp hk rfl hr ht) ?_
    simp [Nat.add_comm, Nat.add_left_comm]

/-- Settles O44: the two clocks, one after the other. -/
theorem idleIterationIsIter : Obligations.IdleIterationIsIter := by
  intro s p e z rest hp hk hi hrp hre ha
  rw [Spec.iter_idle ha]
  refine runClocks_of_step (step_poll_listed hi hrp hk hp) <|
    runClocks_of_step (step_idle_listed rfl hre hk rfl ha) ?_
  simp only [runClocks, State.after, Spec.iterStart, hi, hp, Phase.code, List.drop_one]
  rfl

/-- Settles O45: the three clocks, one after the other. -/
theorem holdIterationIsIter : Obligations.HoldIterationIsIter := by
  intro s p e g z rest hp hk hi hrp hre hrg ha ht
  rw [Spec.iter_hold ha ht]
  rw [Spec.subW_eq] at ht
  refine runClocks_of_step (step_poll_listed hi hrp hk hp) <|
    runClocks_of_step (step_hold_listed rfl hre hk rfl ha ht) <|
    runClocks_of_step (step_gate_listed rfl hrg hk rfl) ?_
  simp only [runClocks, State.after, Spec.iterStart, hi, hp, Phase.code, List.drop_one]
  rfl

/-- Settles O46: POLL and the advance, then the clocks that wait (`runClocks_waits`), then the three that end the iteration, at the
new step. -/
theorem advanceIterationIsIter : Obligations.AdvanceIterationIsIter := by
  intro s p e d z g waits rest hp hk hi hr ha ht hw hd
  simp only [List.forall_mem_cons] at hr
  obtain ⟨hrp, hre, hrd, hrz, hrg, hrw⟩ := hr
  rw [Spec.iter_advance ha ht]
  simp only [Spec.subW_eq] at ht hw hd
  have hn : (BitVec.ofNat 3 ((s.step.toNat + 1) % 6)).toNat = (s.step.toNat + 1) % 6 := toNat_ofNat_step (nextIndex s.step)
  have hk' := hn.trans_lt (nextIndex s.step).isLt
  refine runClocks_of_step (step_poll_listed hi hrp hk hp) <|
    runClocks_of_step (step_advance_listed rfl hre hk rfl ha ht) ?_
  refine Eq.trans (runClocks_add (runClocks_waits rfl hk' rfl hrw hw)) ?_
  refine runClocks_of_step (step_done_listed rfl hrd hk' rfl hd) <|
    runClocks_of_step (step_sense_listed rfl hrz hk' rfl) <|
    runClocks_of_step (step_gate_listed rfl hrg hk' rfl) ?_
  have hdrop : s.clockIn.drop (waits.length + 5) = rest := by simp [hi]
  have hclock : s.clock + (waits.length + 5) = s.clock + 1 + 1 + waits.length + 1 + 1 + 1 := by omega
  simp only [runClocks, State.after, Spec.iterStart, Spec.iterAdvance, Spec.subW_eq, hn, hp, hdrop, hclock,
    Phase.code, List.drop_one]
  rfl

end Sys2Proof.Machine

/-! # Proofs of the scheduler's statements (41_commutation_scheduler.md): the advance, the hold, what moves `STEP`, and idling. -/

namespace Sys2Proof.Machine

/-! ### EVAL_ADVANCE and EVAL_HOLD -/

/-- The table's rows are the words of the last column of R140, in the order of the steps. -/
theorem getElem?_swTab (k : Fin 6) : ([0x09, 0x21, 0x24, 0x06, 0x12, 0x18] : List SwWord)[k.val]? = some (swTab k) := by
  revert k; decide

/-- Settles O14: the step is `nextIndex`, the word its row of the table; the operation map (O6) gives the selection. -/
theorem evalAdvanceAppliesTheNextStep : Obligations.EvalAdvanceAppliesTheNextStep := by
  intro s
  have hn := toNat_ofNat_step (nextIndex s.step)
  refine ⟨⟨BitVec.ofNat 3 (nextIndex s.step).val, swTab (nextIndex s.step), hn, ?_, rfl⟩, fun hk hp ha ht => ?_⟩
  · rw [hn, getElem?_swTab]
  · obtain ⟨-, heval, -⟩ := operationMapSelectsTheRow s hk
    obtain ⟨-, hadvance, -⟩ := heval hp
    exact hadvance ha ht

/-- Settles O15: the snapshot and the move to GATE are the whole operation; the operation map (O6) gives its selection. -/
theorem evalHoldOnlyTakesTheTime : Obligations.EvalHoldOnlyTakesTheTime := by
  intro s
  refine ⟨rfl, fun hk hp ha ht => ?_⟩
  obtain ⟨-, heval, -⟩ := operationMapSelectsTheRow s hk
  obtain ⟨-, -, hhold⟩ := heval hp
  exact hhold ha ht

/-! ### What moves `STEP` (R123) -/

/-- Settles O36: every clock but the advance leaves `STEP`. -/
theorem stepAdvancesByOneModuloSix : Obligations.StepAdvancesByOneModuloSix := by
  intro s t ht hr hne
  obtain ⟨hr', -⟩ | ⟨-, k, -, hc⟩ := step_cases ht
  · simp [hr] at hr'
  obtain ⟨-, rfl⟩ | ⟨-, -, rfl⟩ | ⟨hp, ha, htr, rfl⟩ | ⟨-, -, -, rfl⟩ | ⟨-, rfl⟩ | ⟨-, rfl⟩ | ⟨-, rfl⟩ := hc
  case inr.inr.inr.inl => -- the advance
    have hn := toNat_ofNat_step (nextIndex s.step)
    exact ⟨hp, s.active_iff.mp ha, s.trigger_iff.mp htr, hn, rfl,
      (Spec.swtab_eq _).symm.trans (congrArg Spec.swtab hn.symm), rfl⟩
  all_goals simp at hne

/-! ### Idle iterations (R125) -/

theorem State.matching_of_cons {s : State} {it : RxItem} {items : List RxItem} (h : s.rxIn = it :: items) :
    s.matching ↔ recognised s.cfg it := by
  simp [State.matching, State.item, recognised, h]

/-- An item that is no frame with the recognised identifier leaves `SETPOINT` (45_command_interface.md R202 to R205). -/
theorem Spec.polledSetpoint_of_not_matching {s : State} (h : ¬ s.matching) :
    polledSetpoint s.cfg s.item s.setpoint = s.setpoint := by
  rw [polledSetpoint_eq, if_neg h]

/-- `s` after `n` idle iterations without a recognised frame, `T` being the time last taken. -/
def State.idled (s : State) (n : Nat) (T : Time) : State :=
  { s with tNow := T, out := if n = 0 then s.out else 0x00 }.after s (2 * n) n

/-- One idle iteration that presents no recognised frame takes the time and switches everything off. -/
theorem runClocks_idle {s : State} {p e : ClockInput} {rest : List ClockInput} {it : RxItem} {items : List RxItem}
    (hp : s.phase = Phase.poll.code) (hk : s.step.toNat < 6) (ha : s.setpoint.toNat < s.cfg.minSpeed)
    (hi : s.clockIn = p :: e :: rest) (hrp : p.rst = false) (hre : e.rst = false)
    (hx : s.rxIn = it :: items) (hit : ¬ recognised s.cfg it) :
    runClocks 2 s = .next (s.idled 1 e.timeNow) := by
  have hsp := Spec.polledSetpoint_of_not_matching (mt (State.matching_of_cons hx).mp hit)
  have ha' : (Spec.polledSetpoint s.cfg s.item s.setpoint).toNat < s.cfg.minSpeed := hsp.symm ▸ ha
  rw [idleIterationIsIter s p e e rest hp hk hi hrp hre ha', Spec.iter_idle ha', Spec.iterStart, hsp]
  rfl

/-- Idle iterations add up. -/
theorem State.idled_idled (s : State) (n : Nat) (T T' : Time) : (s.idled 1 T).idled n T' = s.idled (n + 1) T' := by
  simp [State.idled, State.after, Nat.mul_add, Nat.add_comm, Nat.add_assoc]

/-- Any number of idle iterations, one after the other. -/
theorem runClocks_idles {n : Nat} {s : State} (hp : s.phase = Phase.poll.code) (hk : s.step.toNat < 6)
    (ha : s.setpoint.toNat < s.cfg.minSpeed) (hi : 2 * n ≤ s.clockIn.length) (hx : n ≤ s.rxIn.length)
    (hr : ∀ i ∈ s.clockIn.take (2 * n), i.rst = false) (hit : ∀ it ∈ s.rxIn.take n, ¬ recognised s.cfg it) :
    ∃ T, runClocks (2 * n) s = .next (s.idled n T) := by
  induction n generalizing s with
  | zero => exact ⟨s.tNow, rfl⟩
  | succ n ih =>
    obtain ⟨p, e, rest, hi'⟩ : ∃ p e rest, s.clockIn = p :: e :: rest := by
      rcases h : s.clockIn with _ | ⟨p, _ | ⟨e, rest⟩⟩
      · simp [h] at hi
      · simp [h, Nat.mul_add] at hi
      · exact ⟨p, e, rest, rfl⟩
    obtain ⟨it, items, hx'⟩ := List.exists_cons_of_length_pos (Nat.lt_of_lt_of_le n.succ_pos hx)
    simp only [hi', hx', Nat.mul_succ, List.length_cons, List.take_succ_cons, List.forall_mem_cons] at hi hx hr hit
    obtain ⟨hrp, hre, hr⟩ := hr
    obtain ⟨hit, hits⟩ := hit
    have hone := runClocks_idle hp hk ha hi' hrp hre hx' hit
    have hc : (s.idled 1 e.timeNow).clockIn = rest := congrArg (List.drop 2) hi'
    have hd : (s.idled 1 e.timeNow).rxIn = items := congrArg (List.drop 1) hx'
    obtain ⟨T, hT⟩ := ih (s := s.idled 1 e.timeNow) hp hk ha (hc ▸ Nat.le_of_add_le_add_right hi)
      (hd ▸ Nat.le_of_succ_le_succ hx) (hc ▸ hr) (hd ▸ hits)
    refine ⟨T, ?_⟩
    rw [Nat.mul_succ, Nat.add_comm, runClocks_add hone, hT, State.idled_idled]

/-- Settles O47: all of the `n` iterations together write only `T_NOW`, `OUT` and the inputs. -/
theorem idlingHoldsTheSchedulerState : Obligations.IdlingHoldsTheSchedulerState := by
  intro n s hp hk ha hi hx hr hit
  obtain ⟨T, hT⟩ := runClocks_idles hp hk ha hi hx hr hit
  exact ⟨_, hT, hp, rfl, rfl, rfl, rfl, rfl, fun hn => if_neg (Nat.one_le_iff_ne_zero.mp hn)⟩

end Sys2Proof.Machine

/-! # Proofs of the driver's statements (42_power_stage_driver.md): no shoot-through, the switch table, the driver operations. -/

namespace Sys2Proof.Machine

/-! ### No shoot-through in any reachable state (R144) -/

theorem zero_not_shorted : ¬ shorted 0x00 := by
  rintro ⟨p, -, h, -⟩
  simp at h

/-- The invariant leaves `OUT` no word but `0x00` and those of the table. -/
theorem State.Inv.sw_not_shorted {s : State} (h : s.Inv) : ¬ shorted s.sw := by
  rw [State.sw]
  obtain ho | ⟨k, -, ho⟩ := h.out_word
  · exact ho ▸ zero_not_shorted
  · exact ho ▸ swTab_not_shorted k

theorem runClocks_keeps_inv {n : Nat} {s t : State} (h : s.Inv) (ht : runClocks n s = .next t) : t.Inv := by
  induction n generalizing s with
  | zero => cases ht; exact h
  | succ n ih =>
    obtain ⟨u, hu, hinv⟩ := stepKeepsTheInvariant s h
    exact ih hinv ((runClocks_succ_of_next hu).symm.trans ht)

/-- Settles O31: every clock keeps the invariant, which leaves `sw` no shoot-through word. -/
theorem noRunShortsAPhase : Obligations.NoRunShortsAPhase :=
  fun _ _ _ h ht => (runClocks_keeps_inv h ht).sw_not_shorted

/-! ### The switch table (R140, R145, R146) -/

theorem swTab_eq_columns (k : Fin 6) :
    swTab k = BitVec.ofNat 6 (1 <<< (2 * (highTab k).val) ||| 1 <<< (2 * (lowTab k).val + 1)) := by
  revert k; decide

theorem floatTab_eq_columns (k : Fin 6) : (floatTab k).val = 3 - (highTab k).val - (lowTab k).val := by
  revert k; decide

/-- Settles O8: the two formulas, and the columns and words read off row by row. -/
theorem switchTableFollowsItsColumns : Obligations.SwitchTableFollowsItsColumns :=
  ⟨fun k => ⟨swTab_eq_columns k, floatTab_eq_columns k⟩, by decide, by decide⟩

/-- The bit of the high-side switch that is on in step `k`. -/
def highSwitch (k : Fin 6) : Fin 6 := ⟨2 * (highTab k).val, by omega⟩

/-- The bit of the low-side switch that is on in step `k`. -/
def lowSwitch (k : Fin 6) : Fin 6 := ⟨2 * (lowTab k).val + 1, by omega⟩

/-- R141: those two switches are on, the other four off. -/
theorem getLsbD_swTab (k b : Fin 6) : (swTab k).getLsbD b.val = decide (b = highSwitch k ∨ b = lowSwitch k) := by
  revert k b; decide

theorem highSwitch_ne_lowSwitch (k j : Fin 6) : highSwitch k ≠ lowSwitch j := by
  simp only [highSwitch, lowSwitch, ne_eq, Fin.mk.injEq]
  omega

/-- An even step and the next share the high side; the low side moves to another phase. -/
theorem switches_next_of_even {k n : Fin 6} (hn : n.val = (k.val + 1) % 6) (hk : k.val % 2 = 0) :
    highSwitch n = highSwitch k ∧ (lowSwitch k).val / 2 ≠ (lowSwitch n).val / 2 := by
  revert k n; decide

/-- An odd step and the next share the low side; the high side moves to another phase. -/
theorem switches_next_of_odd {k n : Fin 6} (hn : n.val = (k.val + 1) % 6) (hk : k.val % 2 = 1) :
    lowSwitch n = lowSwitch k ∧ (highSwitch k).val / 2 ≠ (highSwitch n).val / 2 := by
  revert k n; decide

/-- Settles O9: one of the two switches of step `k` stays on, and the one on the other side is exchanged. -/
theorem consecutiveStepsSwapOneSwitch : Obligations.ConsecutiveStepsSwapOneSwitch := by
  intro k n hn
  simp only [getLsbD_swTab]
  rcases Nat.mod_two_eq_zero_or_one k.val with hk | hk
  · obtain ⟨hstay, hphase⟩ := switches_next_of_even hn hk
    have hne : lowSwitch k ≠ lowSwitch n := fun h => hphase (h ▸ rfl)
    have hside (j : Fin 6) : lowSwitch j ≠ highSwitch k := (highSwitch_ne_lowSwitch k j).symm
    exact ⟨lowSwitch k, lowSwitch n, hphase, by simp +contextual [hstay, hne, hne.symm, hside]⟩
  · obtain ⟨hstay, hphase⟩ := switches_next_of_odd hn hk
    have hne : highSwitch k ≠ highSwitch n := fun h => hphase (h ▸ rfl)
    have hside (j : Fin 6) : highSwitch j ≠ lowSwitch k := highSwitch_ne_lowSwitch j k
    exact ⟨highSwitch k, highSwitch n, hphase, by simp +contextual [hstay, hne, hne.symm, hside]⟩

/-- The floating phase goes C, B, A and round again. -/
theorem floatTab_val (k : Fin 6) : (floatTab k).val = 2 - k.val % 3 := by revert k; decide

/-- Settles O10: the floating phase depends on the step modulo 3 alone, and is another for another remainder. -/
theorem floatingPhasesAreThreeStepsApart : Obligations.FloatingPhasesAreThreeStepsApart := by
  intro k m n hm hn
  rw [Fin.ext_iff, ne_eq, Fin.ext_iff, floatTab_val, floatTab_val, floatTab_val]
  omega

/-! ### The driver operations (R141, R142) -/

/-- Settles O21: each of the six words decodes to its operation, which drives that word. -/
theorem driveStepWritesItsWord : Obligations.DriveStepWritesItsWord := fun s =>
  ⟨exec_of_decodeSw (w := 0x09) (by decide) s, exec_of_decodeSw (w := 0x21) (by decide) s,
    exec_of_decodeSw (w := 0x24) (by decide) s, exec_of_decodeSw (w := 0x06) (by decide) s,
    exec_of_decodeSw (w := 0x12) (by decide) s, exec_of_decodeSw (w := 0x18) (by decide) s⟩

/-- Driving the word that `OUT` already holds changes nothing. -/
theorem State.drive_of_out_eq {s : State} {w : SwWord} (h : s.out = w) : s.drive w = s := by
  rw [← h]
  rfl

/-- Settles O22: `0x00` decodes to the operation, which drives that word. -/
theorem driveAllOffClearsTheSwitches : Obligations.DriveAllOffClearsTheSwitches := by
  intro s
  have hoff : exec .driveAllOff s = .next (s.drive 0x00) := exec_of_decodeSw (by decide) s
  exact ⟨hoff, fun h => by rw [hoff, State.drive_of_out_eq h]⟩

end Sys2Proof.Machine

/-! # Proofs of the detector's statements (43_zero_crossing_detector.md): the SENSE operations and the period estimate. -/

namespace Sys2Proof.Machine

/-! ### SENSE_CROSS and SENSE_NOCROSS -/

/-- The floating phase's sample is the one of C, B, A, C, B, A in steps 0 to 5 (R160). -/
theorem State.getElem?_sample (s : State) (k : Fin 6) :
    [s.input.vC, s.input.vB, s.input.vA, s.input.vC, s.input.vB, s.input.vA][k.val]?.map (· % 2 ^ s.cfg.adcW) =
      some (s.sample k) := by
  fin_cases k <;> rfl

/-- Settles O17: the three writes are the whole operation in a legal step; the operation map (O6) gives its selection. -/
theorem senseCrossEstimatesThePeriod : Obligations.SenseCrossEstimatesThePeriod := by
  intro s hk
  have hs : s.step.toNat = (⟨_, hk⟩ : Fin 6).val := rfl
  refine ⟨s.sample ⟨_, hk⟩, s.estimate, s.getElem?_sample ⟨_, hk⟩, s.estimate_toNat, execSenseCross_of_lt hs, fun hp hsign => ?_⟩
  obtain ⟨-, -, -, hsense, -⟩ := operationMapSelectsTheRow s hk
  obtain ⟨hcross, -⟩ := hsense hp ⟨_, hk⟩ rfl
  exact hcross hsign

/-- Settles O18: the two writes are the whole operation in a legal step; the operation map (O6) gives its selection. -/
theorem senseNocrossKeepsThePeriod : Obligations.SenseNocrossKeepsThePeriod := by
  intro s hk
  have hs : s.step.toNat = (⟨_, hk⟩ : Fin 6).val := rfl
  refine ⟨s.sample ⟨_, hk⟩, s.getElem?_sample ⟨_, hk⟩, execSenseNocross_of_lt hs, fun hp hsign => ?_⟩
  obtain ⟨-, -, -, hsense, -⟩ := operationMapSelectsTheRow s hk
  obtain ⟨-, hnocross⟩ := hsense hp ⟨_, hk⟩ rfl
  exact hnocross hsign

/-! ### The period estimate (R162, R166, R167) -/

/-- A `SENSE_CROSS` that answers a next state leaves the estimate in `PERIOD`. -/
theorem period_of_exec_senseCross {s t : State} (h : exec .senseCross s = .next t) : t.period = s.estimate := by
  have h : execSenseCross s = .next t := h
  rcases Nat.lt_or_ge s.step.toNat 6 with hk | hk
  · rw [execSenseCross_of_lt (k := ⟨_, hk⟩) rfl] at h
    cases h
    rfl
  · rw [execSenseCross_of_ge hk] at h
    cases h

/-- Settles O52: below `2^32` the estimate is six times the elapsed time itself, and the interval is a sixth of it. -/
theorem crossingMakesTheIntervalTheElapsedTime : Obligations.CrossingMakesTheIntervalTheElapsedTime := by
  intro s t h hfit
  have hperiod : t.period.toNat = 6 * (s.timeNow - s.tLast).toNat := by
    rw [period_of_exec_senseCross h, State.estimate_toNat, Nat.mod_eq_of_lt hfit]
  refine ⟨hperiod, ?_⟩
  rw [State.interval, hperiod]
  exact Nat.mul_div_cancel_left _ (Nat.succ_pos 5)

/-- A SENSE clock that changes `PERIOD` writes the estimate. -/
theorem period_of_step_sense_of_ne {s t : State} (ht : step s = .next t) (hr : s.rst = false) (hp : s.phase = Phase.sense.code)
    (hne : t.period ≠ s.period) : t.period = s.estimate := by
  obtain ⟨hr', -⟩ | ⟨-, k, hk, -⟩ := step_cases ht
  · simp [hr] at hr'
  rw [step_sense hr hk hp] at ht
  cases ht
  cases hc : s.cross k with
  | true => simp
  | false => simp [hc] at hne

/-- The estimate reads the time and `T_LAST` alone. -/
theorem State.estimate_congr {s s' : State} (ht : s.timeNow = s'.timeNow) (hl : s.tLast = s'.tLast) : s.estimate = s'.estimate := by
  simp [State.estimate, State.sinceLast, ht, hl]

/-- Settles O54: both clocks write their estimate, which no sample enters. -/
theorem estimateNeverDependsOnASample : Obligations.EstimateNeverDependsOnASample := by
  intro s s' t t' hst hst' hr hr' hp hp' htime hlast _ hne hne'
  calc t.period = s.estimate := period_of_step_sense_of_ne hst hr hp hne
    _ = s'.estimate := State.estimate_congr htime hlast
    _ = t'.period := (period_of_step_sense_of_ne hst' hr' hp' hne').symm

end Sys2Proof.Machine

/-! # Proofs of the gate's statements (44_speed_modulator.md): what a GATE clock finds elapsed, the on-time, the GATE operations. -/

namespace Sys2Proof.Machine

/-! ### What the gate relies on (R183, 40_sequencer.md R107) -/

theorem State.gateReady_of_tNow_eq_tLast {s : State} (h : s.tNow = s.tLast) : s.GateReady where
  after_advance _ := h
  at_gate _ := .inl h

/-- In POLL and EVAL nothing is asked of the snapshot. -/
theorem State.gateReady_of_poll_or_eval {s : State} (h : s.phase = Phase.poll.code ∨ s.phase = Phase.eval.code) : s.GateReady := by
  obtain h | h := h <;> exact ⟨fun hp => absurd hp (h ▸ by decide), fun hp => absurd hp (h ▸ by decide)⟩

theorem State.gateReady_of_elapsed_lt {s : State} (hp : s.phase = Phase.gate.code)
    (h : (s.tNow - s.tLast).toNat < s.period.toNat / 6) : s.GateReady where
  after_advance hp' := absurd hp' (hp ▸ by decide)
  at_gate _ := .inr h

/-- Settles O33: the advance makes snapshot and transition time equal and SETTLE and SENSE write neither (a new `PERIOD` does not
matter to equal times); a hold finds less than the interval elapsed; all other clocks lead to POLL or EVAL. -/
theorem stepKeepsGateReady : Obligations.StepKeepsGateReady := by
  intro s t h ht
  obtain ⟨-, rfl⟩ | ⟨-, k, -, hc⟩ := step_cases ht
  · exact State.gateReady_of_poll_or_eval (.inl rfl)
  obtain ⟨-, rfl⟩ | ⟨-, -, rfl⟩ | ⟨-, -, -, rfl⟩ | ⟨-, -, htr, rfl⟩ | ⟨hp, rfl⟩ | ⟨hp, rfl⟩ | ⟨-, rfl⟩ := hc
  · exact State.gateReady_of_poll_or_eval (.inr rfl)
  · exact State.gateReady_of_poll_or_eval (.inl rfl)
  · exact State.gateReady_of_tNow_eq_tLast rfl
  · exact State.gateReady_of_elapsed_lt rfl (s.trigger_eq_false_iff.mp htr)
  · have heq : s.tNow = s.tLast := h.after_advance (.inl hp)
    exact State.gateReady_of_tNow_eq_tLast heq
  · have heq : s.tNow = s.tLast := h.after_advance (.inr hp)
    exact State.gateReady_of_tNow_eq_tLast heq
  · exact State.gateReady_of_poll_or_eval (.inl rfl)

/-! ### The on-time (R180, R183 to R187) -/

section
variable (s : State)

/-- The quotient of R180 is within one unit of `SETPOINT` thousandths of the interval. -/
theorem State.onTime_bounds :
    1000 * s.onTime ≤ s.interval * s.setpoint.toNat ∧ s.interval * s.setpoint.toNat < 1000 * s.onTime + 1000 :=
  ⟨Nat.mul_div_le _ _, Nat.lt_mul_div_succ _ (Nat.succ_pos 999)⟩

/-- The quotient of R120 is within one unit of a sixth of the period. -/
theorem State.interval_bounds : 6 * s.interval ≤ s.period.toNat ∧ s.period.toNat ≤ 6 * s.interval + 5 :=
  ⟨Nat.mul_div_le _ _, Nat.le_of_lt_succ (Nat.lt_mul_div_succ _ (Nat.succ_pos 5))⟩

theorem State.onTime_le_interval (h : s.setpoint.toNat ≤ 1000) : s.onTime ≤ s.interval :=
  calc s.onTime ≤ s.interval * 1000 / 1000 := Nat.div_le_div_right (Nat.mul_le_mul_left _ h)
    _ = s.interval := Nat.mul_div_cancel _ (by decide)

theorem State.interval_le_onTime (h : 1000 ≤ s.setpoint.toNat) : s.interval ≤ s.onTime :=
  calc s.interval = s.interval * 1000 / 1000 := (Nat.mul_div_cancel _ (by decide)).symm
    _ ≤ s.onTime := Nat.div_le_div_right (Nat.mul_le_mul_left _ h)

end

/-- Settles O57: the quotient is monotonic in `SETPOINT`, and at 1000 it is the interval. -/
theorem onTimeAgainstTheInterval : Obligations.OnTimeAgainstTheInterval := fun s =>
  ⟨s.onTime_le_interval, fun h => (s.onTime_le_interval h.le).antisymm (s.interval_le_onTime h.ge), s.interval_le_onTime⟩

/-- Settles O56: the bounds of the two divisions, one scaled by `SETPOINT` and the other by 6, add up. -/
theorem onTimeIsTheFlooredShare : Obligations.OnTimeIsTheFlooredShare := by
  intro s
  obtain ⟨hlow, hhigh⟩ := s.onTime_bounds
  obtain ⟨hle, hge⟩ := s.interval_bounds
  have hle := Nat.mul_le_mul_right s.setpoint.toNat hle
  have hge := Nat.mul_le_mul_right s.setpoint.toNat hge
  rw [Nat.add_mul, Nat.mul_assoc] at hge
  rw [Nat.mul_assoc] at hle
  refine ⟨by omega, by omega, fun hp hs => ?_, fun hp hs => ?_⟩
  all_goals
    rw [State.onTime, State.interval, hp, hs]
    rfl

/-! ### The GATE operations (R181, R182, R184) -/

/-- Settles O20: the writes named are the whole operation; the operation map (O6) gives the selection. -/
theorem gateWritesOnlyTheSwitches : Obligations.GateWritesOnlyTheSwitches := by
  intro s
  refine ⟨rfl, rfl, fun hk hp => ?_, fun hk hp => ?_⟩
  all_goals
    obtain ⟨-, -, -, -, hgate⟩ := operationMapSelectsTheRow s hk
    obtain ⟨hoff, hkeep⟩ := hgate hp
    assumption

/-- At full scale the on-time is an interval or more; with `PERIOD` below 6 the interval is 0, which no elapsed time is below. -/
theorem State.GateReady.elapsed_le_onTime {s : State} (h : s.GateReady) (hp : s.phase = Phase.gate.code)
    (hfull : 1000 ≤ s.setpoint.toNat ∨ s.period.toNat < 6) : (s.tNow - s.tLast).toNat ≤ s.onTime := by
  obtain heq | hlt := h.at_gate hp
  · simp [heq]
  obtain hs | hperiod := hfull
  · exact hlt.le.trans (s.interval_le_onTime hs)
  · rw [Nat.div_eq_of_lt hperiod] at hlt
    exact absurd hlt (Nat.not_lt_zero _)

/-- Settles O34: no more than the on-time is elapsed, which selects `GATE_KEEP` (O20). -/
theorem fullSpeedGateNeverSwitchesOff : Obligations.FullSpeedGateNeverSwitchesOff := by
  intro s h hk hp hfull
  obtain ⟨-, -, -, hkeep⟩ := gateWritesOnlyTheSwitches s
  exact hkeep hk hp (h.elapsed_le_onTime hp hfull)

end Sys2Proof.Machine

/-! # Proofs of the command interface's statements (45_command_interface.md): a matching frame's value, the POLL operations. -/

namespace Sys2Proof.Machine

/-! ### A low setpoint (R208) -/

/-- A POLL clock that presents a frame with the recognised identifier takes the big-endian value of its bytes (R201). -/
theorem Spec.toNat_polledSetpoint_of_matching {s : State} (h : s.matching) :
    (polledSetpoint s.cfg s.item s.setpoint).toNat = 256 * s.item.d0.toNat + s.item.d1.toNat := by
  rw [polledSetpoint_eq, if_pos h, setpointValue_toNat, Nat.mul_comm]

/-- Settles O50: the frame's value is the setpoint that the EVAL clock reads, so this is an idle iteration (O44), which leaves
`OUT` at 0x00 whatever it was. -/
theorem lowSetpointIsOffWithinOneIteration : Obligations.LowSetpointIsOffWithinOneIteration := by
  intro s p e rest hp hk hi hrp hre hm hlow
  have hsp := Spec.toNat_polledSetpoint_of_matching hm
  have ha : (Spec.polledSetpoint s.cfg s.item s.setpoint).toNat < s.cfg.minSpeed := hsp.trans_lt hlow
  have hrun := idleIterationIsIter s p e e rest hp hk hi hrp hre ha
  rw [Spec.iter_idle ha] at hrun
  exact ⟨_, hrun, rfl, hp, rfl, hsp⟩

/-! ### The POLL operations (R201, R202, R204, R205) -/

/-- Settles O11: the stored value is `setpointValue`, unclamped; the operation map (O6) gives the selection. -/
theorem pollSetpointStoresTheBigEndianValue : Obligations.PollSetpointStoresTheBigEndianValue := by
  refine ⟨fun s d0 d1 => ⟨setpointValue d0 d1, s.rxIn.tail, setpointValue_toNat d0 d1, rfl⟩, fun s hr hk hp hv he hid => ?_⟩
  obtain ⟨hpoll, -⟩ := operationMapSelectsTheRow s hk
  obtain ⟨hsetpoint, -⟩ := hpoll hp
  exact ⟨(State.rxPop_of_poll hr hp).trans hv, hsetpoint hv he hid⟩

/-- Settles O12: all three operations are `State.polled`; the operation map (O6) gives their selection, and whether an item is
presented is whether one is popped. -/
theorem otherPollsOnlyMoveOn : Obligations.OtherPollsOnlyMoveOn := by
  refine ⟨fun s err id d0 d1 => ⟨s.rxIn.tail, rfl, rfl, rfl⟩, fun s hr hk hp => ?_⟩
  obtain ⟨hpoll, -⟩ := operationMapSelectsTheRow s hk
  obtain ⟨-, hother, herror, hnone⟩ := hpoll hp
  rw [State.rxPop_of_poll hr hp]
  exact ⟨fun hv he hid => ⟨hv, hother hv he hid⟩, fun hv he => ⟨hv, herror hv he⟩, fun hv => ⟨hv, hnone hv⟩⟩

end Sys2Proof.Machine

/-! # Proofs of the exceptions' statements (60_exceptions.md): the model faults, and the only writers of `SETPOINT` and `PERIOD`. -/

namespace Sys2Proof.Machine

/-! ### The model faults (R222) -/

/-- Settles O26: a reset clock, and one with legal `STEP` and `PHASE`, answers a next state; of the reserved encodings the fetch meets
`STEP` first. -/
theorem modelFaultsAreTheReservedEncodings : Obligations.ModelFaultsAreTheReservedEncodings := by
  intro s
  cases hr : s.rst with
  | true => simp [step_of_rst hr]
  | false =>
    rcases Nat.lt_or_ge s.step.toNat 6 with hk | hk
    · rcases Nat.lt_or_ge s.phase.toNat 5 with hp | hp
      · obtain ⟨t, ht⟩ := exists_step_eq_next hk hp
        simp [ht, Nat.not_le.mpr hk, Nat.not_le.mpr hp]
      · simp [step_of_fault hr (State.fetch_of_phase_ge hk hp), hk, hp, Nat.not_le.mpr hk, eq_comm]
    · simp [step_of_fault hr (State.fetch_of_ge hk), hk, Nat.not_lt.mpr hk, eq_comm]

/-! ### Who writes `SETPOINT` and `PERIOD` (R228 to R230) -/

/-- Settles O35: no other phase writes `SETPOINT`, and a POLL clock without a recognised frame leaves it. -/
theorem onlyAMatchingFrameWritesTheSetpoint : Obligations.OnlyAMatchingFrameWritesTheSetpoint := by
  intro s t ht hr hne
  have hp : s.phase = Phase.poll.code := by
    by_contra hp
    obtain ⟨-, hkept⟩ := step_frame_of_ne_poll ht hr hp
    exact hne hkept
  obtain ⟨hr', -⟩ | ⟨-, k, hk, -⟩ := step_cases ht
  · simp [hr] at hr'
  rw [step_poll hr hk hp] at ht
  cases ht
  by_cases hm : s.matching
  · have ⟨hv, _, _⟩ := hm
    refine ⟨hp, hm, s.rxPop_iff.mpr ⟨hr, hp, hv⟩, ?_⟩
    simp [if_pos hm, setpointValue_toNat, Nat.mul_comm]
  · simp [if_neg hm] at hne

/-- A clock without reset outside SENSE leaves `PERIOD`. -/
theorem step_period_of_ne_sense {s t : State} (ht : step s = .next t) (hr : s.rst = false) (hp : s.phase ≠ Phase.sense.code) :
    t.period = s.period := by
  obtain ⟨hr', -⟩ | ⟨-, k, -, hc⟩ := step_cases ht
  · simp [hr] at hr'
  obtain ⟨-, rfl⟩ | ⟨-, -, rfl⟩ | ⟨-, -, -, rfl⟩ | ⟨-, -, -, rfl⟩ | ⟨-, rfl⟩ | ⟨hp', -⟩ | ⟨-, rfl⟩ := hc
  case inr.inr.inr.inr.inr.inr.inl => -- SENSE
    exact absurd hp' hp
  all_goals simp [State.ite_setSetpoint]

/-- Settles O37: no other phase writes `PERIOD`, and a SENSE clock without a crossing leaves it. -/
theorem onlyACrossingWritesThePeriod : Obligations.OnlyACrossingWritesThePeriod := by
  intro s t ht hr hne
  have hp : s.phase = Phase.sense.code := by
    by_contra hp
    exact hne (step_period_of_ne_sense ht hr hp)
  have hperiod := period_of_step_sense_of_ne ht hr hp hne
  refine ⟨hp, ?_, (congrArg BitVec.toNat hperiod).trans s.estimate_toNat⟩
  obtain ⟨hr', -⟩ | ⟨-, k, hk, -⟩ := step_cases ht
  · simp [hr] at hr'
  rw [step_sense hr hk hp] at ht
  cases ht
  cases hcross : s.cross k with
  | true => exact ⟨k, hk.symm, hcross⟩
  | false => simp [hcross] at hne

end Sys2Proof.Machine

/-! # Proofs of the statements on reset and hazards (70_reset_and_hazards.md): a reset clock, the first advance, the settle wait, the
estimate's edge values. -/

namespace Sys2Proof.Machine

/-! ### Reset (R250, R253) -/

/-- Settles O27: the next state is `resetRegs` at the clock edge, which moves only the clocked inputs on. -/
theorem resetClockLoadsTheResetValues : Obligations.ResetClockLoadsTheResetValues :=
  fun s hr => ⟨State.rxPop_of_rst hr, s.clockIn.tail, s.clock + 1, step_of_rst hr⟩

/-- Settles O51: after the reset clock `T_LAST` is 0 and `STEP` is 0, so the time itself is what the EVAL clock finds elapsed, and the
advance is the one to step 1. -/
theorem firstAdvanceAfterResetIsStepOne : Obligations.FirstAdvanceAfterResetIsStepOne := by
  intro s t p e rest hr ht hi hrp hre ha hd
  obtain rfl : s.resetRegs.endClock = t := Host.Outcome.next.inj ((step_of_rst hr).symm.trans ht)
  have helapsed : e.timeNow - 0 = e.timeNow := BitVec.sub_zero _
  have hrun := runClocks_of_step (step_poll_listed hi hrp (Nat.succ_pos 5) rfl) <|
    runClocks_of_step (n := 0) (step_advance_listed rfl hre (Nat.succ_pos 5) rfl ha (helapsed.symm ▸ hd)) rfl
  exact ⟨_, hrun, rfl, rfl, rfl, rfl, rfl, rfl⟩

/-! ### The settle wait (R257) -/

/-- Settles O48: the first `n` listed clocks are clocks that wait (`runClocks_waits`). -/
theorem settleHangsWhileTimeFallsShort : Obligations.SettleHangsWhileTimeFallsShort := by
  intro n s hp hk hn hw
  have hrun := runClocks_waits hp hk (List.take_append_drop n s.clockIn).symm (fun w h => (hw w h).1) (fun w h => (hw w h).2)
  rwa [List.length_take_of_le hn] at hrun

/-! ### The estimate after a crossing (R258, R263) -/

/-- Settles O53: the estimate is 0 as a number exactly where six times the elapsed time is 0 modulo `2^32`. -/
theorem periodIsZeroExactlyAtZeroOrHalf : Obligations.PeriodIsZeroExactlyAtZeroOrHalf := by
  intro s t h
  calc t.period = 0 ↔ t.period.toNat = 0 := BitVec.toNat_inj.symm
    _ ↔ 6 * (s.timeNow - s.tLast).toNat % 2 ^ 32 = 0 := by rw [period_of_exec_senseCross h, State.estimate_toNat]
    _ ↔ _ := six_mul_mod_eq_zero (s.timeNow - s.tLast).isLt

/-- The SENSE clock of a crossing and the two clocks after it lead to EVAL with the estimate in `PERIOD`; none of them
writes `STEP`. -/
theorem runClocks_cross_gate_poll {s u : State} {z g p : ClockInput} {rest : List ClockInput} {k : Fin 6}
    (hp : s.phase = Phase.sense.code) (hk : s.step.toNat = k.val) (hi : s.clockIn = z :: g :: p :: rest)
    (hrz : z.rst = false) (hrg : g.rst = false) (hrp : p.rst = false) (hc : s.cross k = true)
    (hu : runClocks 3 s = .next u) :
    u.phase = Phase.eval.code ∧ u.step = s.step ∧ u.period = s.estimate := by
  have hk' : s.step.toNat < 6 := hk ▸ k.isLt
  have hrun := runClocks_of_step (step_sense ((State.rst_of_cons hi).trans hrz) hk hp) <|
    runClocks_of_step (step_gate_listed (congrArg List.tail hi) hrg hk' rfl) <|
    runClocks_of_step (n := 0) (step_poll_listed rfl hrp hk' rfl) rfl
  cases hrun.symm.trans hu
  exact ⟨rfl, rfl, if_pos hc⟩

/-- Settles O55: the interval is then the elapsed time of the SENSE clock, and so much is elapsed again in the EVAL clock. -/
theorem iterationAfterACrossingAdvances : Obligations.IterationAfterACrossingAdvances := by
  intro s u z g p rest k hp hk hi hrz hrg hrp hc hfit hu ha hd
  obtain ⟨hpu, hstep, hperiod⟩ := runClocks_cross_gate_poll hp hk hi hrz hrg hrp hc hu
  have hinterval : u.period.toNat / 6 = (z.timeNow - s.tLast).toNat := by
    rw [hperiod, State.estimate_toNat, State.timeNow_of_cons hi, Nat.mod_eq_of_lt hfit]
    exact Nat.mul_div_cancel_left _ (Nat.succ_pos 5)
  have hku : u.step.toNat < 6 := hstep ▸ hk ▸ k.isLt
  obtain ⟨-, hadvance⟩ := evalAdvanceAppliesTheNextStep u
  exact ⟨hpu, hadvance hku hpu ha (hinterval ▸ hd)⟩

end Sys2Proof.Machine

/-! # Proof of the encoder's statement (30_encoding.md sections 1 and 4): decoding undoes encoding, row by row. -/

namespace Sys2Proof

/-- A POLL clock word selects what its FRAME word selects. -/
theorem decode_ofFrame (c : Config) (F : Nat) : decode c (.clock (ClockWord.ofFrame F)) = .ok (decodeFrame c F) := rfl

/-- The four POLL rows get their operands back from the packed word: the identifier because it fits its bits (`FRAME_ID` by R12, an
operand by `wf`), the row because `POLL_OTHER_ID` carries another identifier than `FRAME_ID`. Every other row's word is a constant. -/
theorem decode_encode {c : Config} {i : Instr} (hframe : c.frameId < 2 ^ c.idW) (hwf : i.wf c = true) :
    decode c (encode c i) = .ok i := by
  cases i with
  | pollSetpoint d0 d1 =>
    simp only [encode, decode_ofFrame, decodeFrame_packFrame, Nat.mod_eq_of_lt hframe, if_true, Bool.false_eq_true, if_false]
  | pollOtherId id d0 d1 =>
    obtain ⟨hid, hother⟩ : id < 2 ^ c.idW ∧ id ≠ c.frameId := by simpa [Instr.wf] using hwf
    simp only [encode, decode_ofFrame, decodeFrame_packFrame, Nat.mod_eq_of_lt hid, hother, if_true, Bool.false_eq_true, if_false]
  | pollReadError id d0 d1 =>
    have hid : id < 2 ^ c.idW := of_decide_eq_true hwf
    simp only [encode, decode_ofFrame, decodeFrame_packFrame, Nat.mod_eq_of_lt hid, if_true]
  | pollNoFrame err id d0 d1 =>
    have hid : id < 2 ^ c.idW := of_decide_eq_true hwf
    simp only [encode, decode_ofFrame, decodeFrame_packFrame, Nat.mod_eq_of_lt hid, Bool.false_eq_true, if_false]
  | evalIdle | evalAdvance | evalHold => rfl
  | settleWait | settleDone => rfl
  | senseCross | senseNocross => rfl
  | gateOff | gateKeep => rfl
  | driveStep0 | driveStep1 | driveStep2 | driveStep3 | driveStep4 | driveStep5 | driveAllOff => rfl

/-- Settles O2: of the parameters' legality only `FRAME_ID < 2^ID_W` is needed. -/
theorem decodeOfEncodeIsTheOperation : Obligations.DecodeOfEncodeIsTheOperation := by
  intro c i hc hwf
  obtain ⟨-, -, -, hframe, -⟩ := hc
  exact decode_encode hframe hwf

end Sys2Proof
